-- ==== Sys2Proof/Word.lean ====
section
/-! DEFINITION. The byte of the ports, and the widths the manual gives its numbers. -/

namespace Sys2Proof

/-- A byte as the serial ports carry it (R174, R187, R188). -/
abbrev Byte := BitVec 8

/-- The ten attention flags or their mask; bit n is the flag of response offset 8, bit n (R186). -/
abbrev FlagSet := BitVec 10

end Sys2Proof
end

