-- ==== Sys2Proof/Syntax.lean ====
section
/-! DEFINITION. The commands of the part: one constructor of `Instr` for each row of spec/opcode_table.json, and the
types of their operands. A number a frame carries is a Nat, since its range is judged by the owner of the record
(R178); a code of a frame that names no value is representable for the same reason. -/

namespace Sys2Proof

/-- One of the two bond heads (00, Terms). -/
inductive HeadId | one | two
deriving DecidableEq, Repr

/-- A magazine side. -/
inductive Side | input | output
deriving DecidableEq, Repr

/-- An axis group of the track link (R20). -/
inductive Group | input | track | output
deriving DecidableEq, Repr

/-- The copy a LOOK or LIST names (R60, R155). -/
inductive View | active | staged
deriving DecidableEq, Repr

/-- A table and a key of it, as LOOK, LIST and TAKE name them (the tables of R178). -/
inductive TableKey
  | cell (key : Nat)
  | strip (id : Nat)
  | inslot (slot : Nat)
  | outslot (slot : Nat)
  | program (id : Nat)
  | wire (program index : Nat) (view : View)
  | loop (entry : Nat)
  | cls (id : Nat)
  | ticket (number : Nat)
  | head (number : Nat)
  | heater (key : Nat)
  | panel (number : Nat) (view : View)
  | colourMap (key : Nat)
  | backlight (key : Nat)
  | touch (key : Nat)
  | attention (key : Nat)
  | link (key : Nat)
deriving DecidableEq, Repr

/-- A write request of a kind its table never allows (R179; R17, R24, R59, R90, R115, R151, R153, R155, R167, R172,
R180, R183, R184). `panelSummary` carries a number of 16 and above. -/
inductive LockedWrite
  | cellPut | cellRetire
  | stripPut | stripAmend
  | outslotPut | outslotAmend | outslotRetire
  | loopRetire
  | ticketPut | ticketAmend | ticketRetire
  | headPut | headRetire
  | heaterPut | heaterAmend | heaterRetire
  | panelPut (number : Nat) | panelAmend (number : Nat) | panelRetire (number : Nat)
  | colourMapPut | colourMapRetire
  | backlightPut | backlightRetire
  | touchPut | touchAmend | touchRetire
  | attentionPut | attentionRetire
  | linkPut | linkAmend | linkRetire
deriving DecidableEq, Repr

/-- A unit position, column first (R2). -/
structure Pos where
  column : Nat
  row : Nat
deriving DecidableEq, Repr

/-- A field of an AMEND of INSLOT (R27). An absent part removes what the slot holds. -/
inductive InslotField
  | state
  | map (positions : Option (List Pos))
  | tag (value : Option Nat)
deriving DecidableEq, Repr

/-- A selection filter (R140). -/
structure Filter where
  value : Nat
  mask : Nat
  enabled : Bool
deriving DecidableEq, Repr

/-- The sampling plan (R137). -/
structure Plan where
  period : Nat
  offset : Nat
  run : Nat
deriving DecidableEq, Repr

/-- The record of a PUT of PROGRAM (R45). -/
structure ProgramBody where
  name : List Nat
  columns : Nat
  rows : Nat
  pitchX : Nat
  pitchY : Nat
  soak : Nat
  plan : Plan
  filter1 : Filter
  filter2 : Filter
  filter3 : Filter
  filter4 : Filter
deriving DecidableEq, Repr

/-- A field of an AMEND of PROGRAM (R54); the last five are not amended. -/
inductive ProgramField
  | name (codes : List Nat)
  | columns (n : Nat)
  | rows (n : Nat)
  | pitchX (n : Nat)
  | pitchY (n : Nat)
  | soak (n : Nat)
  | period (n : Nat)
  | offset (n : Nat)
  | run (n : Nat)
  | filter1 (f : Filter)
  | filter2 (f : Filter)
  | filter3 (f : Filter)
  | filter4 (f : Filter)
  | id | wireCount | generation | stagedFlag | classesUsed
deriving DecidableEq, Repr

/-- A point of a wire in micrometres (R46). -/
structure Point where
  x : Nat
  y : Nat
  z : Nat
deriving DecidableEq, Repr

/-- A bond set P0, F0, T0 (R46). -/
structure BondSet where
  power : Nat
  force : Nat
  time : Nat
deriving DecidableEq, Repr

/-- A wire record; its index is its place in the wire list (R46). -/
structure Wire where
  cls : Nat
  first : Point
  second : Point
  loop : Nat
  firstBond : BondSet
  secondBond : BondSet
  tail : Nat
  bump : Option BondSet
deriving DecidableEq, Repr

/-- A field of an AMEND of WIRE (R52); the index is not amended. -/
inductive WireField
  | index
  | cls (n : Nat)
  | firstX (n : Nat) | firstY (n : Nat) | firstZ (n : Nat)
  | secondX (n : Nat) | secondY (n : Nat) | secondZ (n : Nat)
  | loop (n : Nat)
  | firstPower (n : Nat) | firstForce (n : Nat) | firstTime (n : Nat)
  | secondPower (n : Nat) | secondForce (n : Nat) | secondTime (n : Nat)
  | tail (n : Nat)
  | bumpAdd (set : Option BondSet)
  | bumpRemove
deriving DecidableEq, Repr

/-- A loop shape as a frame carries it: the profile is a code, LOW 1, STANDARD 2, SQUARE 3 (R59, R188). -/
structure LoopBody where
  height : Nat
  reverse : Nat
  kink : Nat
  profile : Nat
deriving DecidableEq, Repr

/-- A field of an AMEND of LOOP (R59). -/
inductive LoopField
  | height (n : Nat) | reverse (n : Nat) | kink (n : Nat) | profile (code : Nat)
deriving DecidableEq, Repr

/-- The settings of a class as a frame carries them: the miss policy is a code, STOP 1, CONTINUE 2 (R117). -/
structure ClassBody where
  pMin : Nat
  pMax : Nat
  fMin : Nat
  fMax : Nat
  trim : Int
  trimStep : Nat
  missPolicy : Nat
  pullMin : Nat
  watchLevel : Nat
  shift : Nat
  bandWidth : Nat
  provingUnits : Nat
  resultsRequired : Nat
  recovery : Nat
deriving DecidableEq, Repr

/-- A field of an AMEND of CLASS (R120); `qualification` stands for any field of the qualification part. -/
inductive ClassField
  | pMin (n : Nat) | pMax (n : Nat) | fMin (n : Nat) | fMax (n : Nat)
  | trim (n : Int) | trimStep (n : Nat) | missPolicy (code : Nat)
  | pullMin (n : Nat) | watchLevel (n : Nat) | shift (n : Nat) | bandWidth (n : Nat)
  | provingUnits (n : Nat) | resultsRequired (n : Nat) | recovery (n : Nat)
  | qualification
deriving DecidableEq, Repr

/-- A claim context as a frame carries it (R78). -/
structure ClaimBody where
  strip : Nat
  column : Nat
  row : Nat
  wireCount : Nat
  wire : Nat
  touched : Bool
  proving : List Nat
deriving DecidableEq, Repr

/-- A field of the head record that no AMEND writes, with the value given for it (R78, R90). States, steps, reasons, ball
states and entries are codes; `reason` holds its code and, for DRIVE, the drive fault code; `statistic` is one of the
nine counts of R102, from 0; `count` is N. -/
inductive LockedHeadField
  | state (code : Nat)
  | step (code : Option Nat)
  | reason (code : Option (Nat × Nat))
  | claim (c : Option ClaimBody)
  | resume (point : Option (Nat × Nat))
  | sparkWire (n : Nat)
  | sparkTry (n : Nat)
  | ball (code : Nat)
  | faultRun (n : Nat)
  | stopTimeout (n : Nat)
  | serial (n : Nat)
  | count (n : Nat)
  | lifetime (n : Nat)
  | statistic (index n : Nat)
  | latched (n : Nat)
deriving DecidableEq, Repr

/-- A field of an AMEND of HEAD (R90); `locked` holds a field the rule does not let the host write. -/
inductive HeadField
  | positionTimeout (n : Nat) | bondTimeout (n : Nat) | sparkTimeout (n : Nat)
  | sparkCurrent (n : Nat) | sparkTime (n : Nat)
  | life (n : Nat) | wearInterval (n : Nat) | wearCap (n : Nat) | kP (n : Nat) | kF (n : Nat)
  | locked (f : LockedHeadField)
deriving DecidableEq, Repr

/-- A panel binding as a frame carries it: a form code (none 0, zone 1, strip id 2, head 3, page 4, side 5) and a
value (R185). -/
structure BindingCode where
  form : Nat
  value : Nat
deriving DecidableEq, Repr

/-- The record of a PUT of PANEL (R154); the kind is a code, STRIP_MAP 1 to CANVAS 7. -/
structure PanelBody where
  kind : Nat
  x : Nat
  y : Nat
  width : Nat
  height : Nat
  binding : BindingCode
  background : Nat
  foreground : Nat
  blink : Bool
  period : Nat
  visible : Bool
  text : List Nat
deriving DecidableEq, Repr

/-- A field of an AMEND of PANEL (R154); the number and the canvas-cleared flag are not amended. -/
inductive PanelField
  | number
  | kind (code : Nat)
  | x (n : Nat) | y (n : Nat) | width (n : Nat) | height (n : Nat)
  | binding (b : BindingCode)
  | background (n : Nat) | foreground (n : Nat)
  | blink (b : Bool) | period (n : Nat) | visible (b : Bool)
  | text (codes : List Nat)
  | canvasCleared
deriving DecidableEq, Repr

/-- An entry of the colour map (R153). -/
inductive ColourEntry
  | skip | pending | claimed | bonded | fault | rework | reject | pullPending | pullDone
deriving DecidableEq, Repr

/-- A field of an AMEND of COLOURMAP (R153). -/
inductive ColourField
  | palette (index value : Nat)
  | map (entry : ColourEntry) (index : Nat)
deriving DecidableEq, Repr

/-- A field of an AMEND of BACKLIGHT (R167). -/
inductive BacklightField
  | level (n : Nat) | off (b : Bool) | dimLevel (n : Nat) | dimTime (seconds : Nat)
deriving DecidableEq, Repr

/-- A field of an AMEND of ATTENTION (R183); `flags` and `line` are not amended. -/
inductive AttentionField
  | mask (bits : Nat) | flags | line
deriving DecidableEq, Repr

/-- A CELL field of the Strip Map Store (R3). -/
inductive CellStripField
  | currentProgram (n : Nat) | currentLot (n : Nat)
deriving DecidableEq, Repr

/-- A CELL field of the Feed Controller (R28, R21); a direction is a code, BOTTOM_UP 1, TOP_DOWN 2. -/
inductive CellFeedField
  | inputCount (n : Nat) | outputCount (n : Nat)
  | inputDirection (code : Nat) | outputDirection (code : Nat)
  | elevate (n : Nat) | push (n : Nat) | transfer (n : Nat) | index (n : Nat)
  | runState
deriving DecidableEq, Repr

/-- A CELL field of the Claim Arbiter (R63). -/
inductive CellWindowField
  | width (n : Nat) | clearance (n : Nat)
deriving DecidableEq, Repr

/-- A CELL field of the Bond Settings Unit (R108). -/
inductive CellHeaterField
  | setPoint (n : Nat) | window (n : Nat) | gain (n : Nat)
deriving DecidableEq, Repr

/-- Any field of the CELL record, with its owner (R180). -/
inductive CellField
  | store (f : CellStripField)
  | feed (f : CellFeedField)
  | arbiter (f : CellWindowField)
  | missRun (n : Nat)
  | dueCount (n : Nat)
  | heater (f : CellHeaterField)
deriving DecidableEq, Repr

/-- The owners of the CELL record's fields (R180). -/
inductive CellOwner
  | store | feed | arbiter | heads | quality | settings
deriving DecidableEq, Repr

/-- The kind and arguments of a draw (R163); the form of a circle is a code, FILLED 1, OUTLINE 2, and `unknown` is a
kind outside the six. -/
inductive DrawShape
  | fillRect (x y width height : Nat)
  | hLine (x y length : Nat)
  | vLine (x y length : Nat)
  | line (x0 y0 x1 y1 : Nat)
  | circle (cx cy radius form : Nat)
  | glyphs (x y : Nat) (codes : List Nat)
  | unknown (kind : Nat)
deriving DecidableEq, Repr

/-- A frame of the heater port as received (R105, R188): readable with a temperature, readable with SENSOR_FAULT, or
one that cannot be read as a READING. -/
inductive HeaterFrame
  | temperature (value : Nat)
  | sensorFault
  | unreadable
deriving DecidableEq, Repr

/-- The commands. `tag` is the request tag a frame carries (R175). -/
inductive Instr
  -- power-on and the record link
  | powerOnReset (inputPresent outputPresent supervisor : Bool)
  | unknownTransaction (typeByte : Byte)
  | read (count : Nat)
  | badFrame (frame : List Byte)
  | overrun
  | responsePlaced
  -- reading tables
  | look (tag : Nat) (key : TableKey)
  | list (tag : Nat) (start : TableKey)
  | take (tag : Nat) (key : TableKey)
  | takeProgram (tag id : Nat)
  | takeHead (tag number : Nat)
  | takeHeater (tag key : Nat)
  | takeClass (tag id : Nat)
  | takeTicket (tag number : Nat)
  | takePanel (tag number : Nat)
  | takeTouch (tag key : Nat)
  | takeAttention (tag key : Nat)
  | takeLink (tag key : Nat)
  -- writing tables
  | writeLocked (tag : Nat) (write : LockedWrite)
  | retireStrip (tag id : Nat)
  | putInslot (tag slot : Nat) (map : Option (List Pos)) (hostTag : Option Nat)
  | amendInslot (tag slot : Nat) (fields : List InslotField)
  | retireInslot (tag slot : Nat)
  | putProgram (tag id : Nat) (body : ProgramBody)
  | amendProgram (tag id : Nat) (fields : List ProgramField)
  | retireProgram (tag id : Nat)
  | putWire (tag program index : Nat) (wire : Wire)
  | amendWire (tag program index : Nat) (fields : List WireField)
  | retireWire (tag program index : Nat)
  | putLoop (tag entry : Nat) (body : LoopBody)
  | amendLoop (tag entry : Nat) (fields : List LoopField)
  | putClass (tag id : Nat) (body : ClassBody)
  | amendClass (tag id : Nat) (fields : List ClassField)
  | retireClass (tag id : Nat)
  | amendHead (tag number : Nat) (fields : List HeadField)
  | putPanel (tag number : Nat) (body : PanelBody)
  | amendPanel (tag number : Nat) (fields : List PanelField)
  | retirePanel (tag number : Nat)
  | amendColourmap (tag key : Nat) (fields : List ColourField)
  | amendBacklight (tag key : Nat) (fields : List BacklightField)
  | amendAttention (tag key : Nat) (fields : List AttentionField)
  | amendCellMixed (tag key : Nat) (fields : List CellField)
  | amendCellStrip (tag key : Nat) (fields : List CellStripField)
  | amendCellFeed (tag key : Nat) (fields : List CellFeedField)
  | amendCellWindow (tag key : Nat) (fields : List CellWindowField)
  | amendCellMissRun (tag key value : Nat)
  | amendCellDueCount (tag key value : Nat)
  | amendCellHeater (tag key : Nat) (fields : List CellHeaterField)
  -- named actions
  | lotStart (tag lot : Nat)
  | rejectUnit (tag strip column row : Nat)
  | unrejectUnit (tag strip column row : Nat)
  | feedRun (tag : Nat)
  | feedStop (tag : Nat)
  | feedClearCompleted (tag group : Nat)
  | feedClearBack (tag group : Nat)
  | feedClearRemoved (tag group : Nat)
  | programApply (tag id : Nat)
  | headEnable (tag number : Nat)
  | headDisable (tag number : Nat)
  | hold (tag number : Nat)
  | resume (tag number : Nat)
  | abort (tag number : Nat)
  | newCapillary (tag number : Nat)
  | headReset (tag number : Nat)
  | requalify (tag id : Nat)
  | sampleNext (tag id : Nat)
  | submitResult (tag ticket wire force mode : Nat)
  | withdraw (tag ticket : Nat)
  | draw (tag panel index : Nat) (shape : DrawShape)
  | clearScreen (tag : Nat)
  | clearAttention (tag set : Nat)
  | cellReset (tag : Nat)
  -- head drive events and head timers
  | atPosition (h : HeadId)
  | contact (h : HeadId)
  | bondDone (h : HeadId)
  | attached (h : HeadId)
  | detached (h : HeadId)
  | sparkOk (h : HeadId)
  | sparkOpen (h : HeadId)
  | stopped (h : HeadId)
  | driveFault (h : HeadId) (code : Nat)
  | stepTimeout (h : HeadId)
  | stopTimeout (h : HeadId)
  -- feed drive events, order timers, magazines, soak
  | slotSeen (g : Group) (slot : Nat) (occupied : Bool)
  | done (g : Group)
  | jam (g : Group)
  | orderTimeout (g : Group)
  | presenceRise (side : Side)
  | presenceFall (side : Side)
  | soakElapsed
  -- heater port, gauge port
  | reading (frame : HeaterFrame)
  | freshnessExpiry
  | resultFrame (bytes : List Byte)
  | gaugeFrameLimit
  -- touch and key switch
  | press (x y : Nat)
  | release
  | dimTimeout
  | keySwitchChange (supervisor : Bool)
  -- display
  | frameStart
  | renderComplete
  | drawComplete
deriving DecidableEq, Repr

end Sys2Proof
end

