-- ==== Sys2Proof/Decode.lean ====
section
/-! DEFINITION. The command a word spells by the bits of spec/opcode_table.json. No row of the table gives bits, so no word
spells one (log 29). The frames of the record link are read in Sys2Proof/Machine/Frames.lean. -/

namespace Sys2Proof

/-- The command of a word: none, since no row of the table gives bits (log 29). -/
def decodeTableWord (_nbits _w : Nat) : Option Instr := none

end Sys2Proof
end

