-- ==== Sys2Proof/Config.lean ====
section
/-! DEFINITION. What the manual does not give: free values, and constants it fixes for the whole part. -/

namespace Sys2Proof.Config

/-- FREE VALUE. Whether pixel (x, y), x 0 to 7 and y 0 to 15, of the glyph of a character code is set:
"fixed by the part and … not given in this manual" (R160). Log 8. -/
opaque glyphPixel : (code : Nat) → (x : Nat) → (y : Nat) → Bool

/-- FREE VALUE. The strip number after the last 32-bit number; the manual gives none. Log 7. -/
opaque stripNumberAfterLast : Nat

/-- FREE VALUE. The ticket number after the last 32-bit number; the manual gives none. Log 7. -/
opaque ticketNumberAfterLast : Nat

/-- Strip records the table holds (R1). -/
abbrev maxStrips : Nat := 64

/-- Wire records the wire memory holds (R47). -/
abbrev wireMemory : Nat := 4096

/-- Tickets the list holds (R143). -/
abbrev maxTickets : Nat := 32

/-- Wires one ticket holds (R139, R140). -/
abbrev maxTicketWires : Nat := 64

/-- Draw requests the queue holds (R163). -/
abbrev maxDraws : Nat := 8

/-- Keys one LIST answer holds (R179). -/
abbrev maxKeys : Nat := 32

/-- Width and height of the screen in pixels (R152). -/
abbrev screenWidth : Nat := 800
abbrev screenHeight : Nat := 480

/-- The stop timeout of a head in milliseconds (R78). -/
abbrev stopTimeout : Nat := 100

/-- The freshness timer of a heater reading in milliseconds (R106). -/
abbrev freshnessTime : Nat := 2000

/-- The limit of a gauge frame in milliseconds (R187). -/
abbrev gaugeLimit : Nat := 50

end Sys2Proof.Config
end

