-- ==== Sys2Proof/Machine/State.lean ====
section
/-! DEFINITION. The state of the part as plain data, block by block, and its value after power-on reset. -/

namespace Sys2Proof.Machine

/-! ## Answers -/

/-- The statuses a request is answered with (R178). -/
inductive Status
  | ok | noSuch | exists_ | inUse | locked | busy | full | badField | badFrame | late | duplicate
deriving DecidableEq, Repr

/-! ## Strip Map Store -/

/-- The state of a unit (R7). -/
inductive UnitState
  | skip | pending | claimed (h : HeadId) | bonded | fault | rework | reject
deriving DecidableEq, Repr

/-- Why a unit was not bonded (R7). -/
inductive FaultKind
  | padMiss | leadMiss | spark | abort | timeout | drive | removed
deriving DecidableEq, Repr

/-- The fault part of a unit entry (R7). -/
structure FaultPart where
  wire : Nat
  kind : FaultKind
deriving DecidableEq, Repr

/-- A pull status that carries a ticket number (R7). -/
inductive PullStatus
  | pending | done | expired | withdrawn
deriving DecidableEq, Repr

/-- The pull part of a unit entry: MISSED carries no ticket number (R7). -/
inductive PullPart
  | missed
  | ticketed (status : PullStatus) (ticket : Nat)
deriving DecidableEq, Repr

/-- One entry of a unit map (R7). -/
structure UnitEntry where
  state : UnitState
  wiresDone : Nat
  fault : Option FaultPart
  pull : Option PullPart
deriving DecidableEq, Repr

/-- The counts per unit state (the strip record table, R8). -/
structure Counts where
  skip : Nat
  pending : Nat
  claimed : Nat
  bonded : Nat
  fault : Nat
  rework : Nat
  reject : Nat
deriving DecidableEq, Repr

/-- Where a strip lies (R6). -/
inductive Location
  | preheat | window | exit | output (slot : Nat) | departed
deriving DecidableEq, Repr

/-- A strip record. `units` is the unit map in unit order: column by column, within a column row by row (R2). -/
structure Strip where
  id : Nat
  lot : Nat
  slot : Nat
  program : Nat
  generation : Option Nat
  location : Location
  inMotion : Bool
  nextColumn : Nat
  columns : Nat
  rows : Nat
  units : List UnitEntry
  counts : Counts
deriving DecidableEq, Repr

/-- The Strip Map Store: the strip table in ascending id, and the three values of R3 (R1, R3). -/
structure Store where
  strips : List Strip
  nextStrip : Nat
  lot : Nat
  program : Nat
deriving DecidableEq, Repr

/-! ## Feed Controller -/

/-- An order of an axis group; the group makes SCAN, ELEVATE and PUSH the IN or OUT order. ELEVATE and PUSH keep the
slot they are for (R20, R22). -/
inductive Order
  | scan
  | elevate (slot : Nat)
  | push (slot : Nat)
  | transferPreheat
  | index (columns : Nat)
  | transferWindow
deriving DecidableEq, Repr

/-- Why a group is held (R22, R25, R30, R36). -/
inductive HoldReason
  | jam | magazineLost | inputEmpty | outputFull | tableFull
deriving DecidableEq, Repr

/-- The state of an axis group (R20). -/
inductive GroupState
  | idle
  | busy (order : Order)
  | held (reason : HoldReason)
deriving DecidableEq, Repr

/-- The context of an axis group: its state, its jammed or lost order, what is left of its order's timeout in
milliseconds, and the timeout the order was sent with, from which a scan's timer restarts (R20, R22, R25, R28). -/
structure GroupContext where
  state : GroupState
  jammed : Option Order
  timer : Option Nat
  limit : Nat
deriving DecidableEq, Repr

/-- The state of an input slot (R23). -/
inductive InSlotState
  | unknown | empty | loaded | taken | jammed
deriving DecidableEq, Repr

/-- An input slot record; the map is kept in unit order (R23, R27). -/
structure InSlot where
  state : InSlotState
  map : Option (List Pos)
  tag : Option Nat
deriving DecidableEq, Repr

/-- An output slot record (R24). -/
inductive OutSlot
  | unknown | empty | filled (strip : Nat)
deriving DecidableEq, Repr

/-- The soak timer (R32). -/
inductive Soak
  | idle | running (ms : Nat) | elapsed
deriving DecidableEq, Repr

/-- The Feed Controller. Slot n is the n-th entry of its list, so a list's length is the side's slot count (R28). -/
structure Feed where
  run : Bool
  input : GroupContext
  track : GroupContext
  output : GroupContext
  inSlots : List InSlot
  outSlots : List OutSlot
  inTarget : Option Nat
  outTarget : Option Nat
  inPresent : Bool
  outPresent : Bool
  inScanDue : Bool
  outScanDue : Bool
  preheat : Option Nat
  window : Option Nat
  exit : Option Nat
  soak : Soak
  /-- The window columns held before the index in flight or jammed (R41, R62). The model's own field, log 24. -/
  beforeIndex : Option (Nat × Nat)
deriving DecidableEq, Repr

/-- The direction in which a magazine's slots are taken (R23, R24). -/
inductive Direction
  | bottomUp | topDown
deriving DecidableEq, Repr

/-- The cell record's fields that no other block's structure holds (R180). Timeouts are in milliseconds. -/
structure Cell where
  inDirection : Direction
  outDirection : Direction
  elevate : Nat
  push : Nat
  transfer : Nat
  index : Nat
  width : Nat
  clearance : Nat
  missRun : Nat
  dueCount : Nat
  setPoint : Nat
  window : Nat
  gain : Nat
deriving DecidableEq, Repr

/-! ## Program Store -/

/-- One copy, active or staged, of a program. The wire with index n is the n-th of `wires` (R44, R46). -/
structure ProgramCopy where
  name : List Nat
  columns : Nat
  rows : Nat
  pitchX : Nat
  pitchY : Nat
  soak : Nat
  plan : Plan
  filter1 : Filter
  filter2 : Filter
  filter3 : Filter
  filter4 : Filter
  wires : List Wire
deriving DecidableEq, Repr

/-- A program record; the staged-copy flag is the presence of `staged` (R44, R50). -/
structure Program where
  id : Nat
  generation : Nat
  active : ProgramCopy
  staged : Option ProgramCopy
deriving DecidableEq, Repr

/-- The profile of a loop shape (R59). -/
inductive Profile
  | low | standard | square
deriving DecidableEq, Repr

/-- A loop shape entry (R59). -/
structure LoopShape where
  height : Nat
  reverse : Nat
  kink : Nat
  profile : Profile
deriving DecidableEq, Repr

/-! ## Claim Arbiter -/

/-- The window state (R61). -/
inductive WindowState
  | closed | indexing | opened (first last : Nat)
deriving DecidableEq, Repr

/-- The Claim Arbiter (R61). -/
structure Arbiter where
  window : WindowState
  clearance : Nat
  first : HeadId
deriving DecidableEq, Repr

/-! ## Head Controllers -/

/-- A reason of STALLED (R79). -/
inductive StallReason
  | index | noUnit | cls | heater
deriving DecidableEq, Repr

/-- A reason of HELD (R79). -/
inductive HeldReason
  | request | miss | missRun | spark | capillary | classLapsed | timeout | aborted
deriving DecidableEq, Repr

/-- The cause of ABORTING (R94, R100). -/
inductive AbortCause
  | timeout | abort
deriving DecidableEq, Repr

/-- The cause of FAULTED (R79). -/
inductive FaultCause
  | drive (code : Nat) | unresponsive
deriving DecidableEq, Repr

/-- The state of a head with its reason or cause (R79). -/
inductive HeadState
  | off | idle | bonding | holding
  | stalled (reason : StallReason)
  | aborting (cause : AbortCause)
  | held (reason : HeldReason)
  | faulted (cause : FaultCause)
deriving DecidableEq, Repr

/-- What a bond step still waits for (R84). -/
inductive BondPhase
  | contact | bondDone | attach
deriving DecidableEq, Repr

/-- The step of the wire in progress (R84); a bond step holds the event it waits for. -/
inductive Step
  | openSpark
  | seekFirst
  | firstBond (phase : BondPhase)
  | looping
  | secondBond (phase : BondPhase)
  | tail
  | bumpSpark
  | bumpSeek
  | bump (phase : BondPhase)
  | bumpTail
  | endSpark
deriving DecidableEq, Repr

/-- The entry of a resume point (R78). -/
inductive Entry
  | start | bump
deriving DecidableEq, Repr

/-- A resume point (R78). -/
structure ResumePoint where
  wire : Nat
  entry : Entry
deriving DecidableEq, Repr

/-- A claim context (R78). -/
structure Claim where
  strip : Nat
  column : Nat
  row : Nat
  wireCount : Nat
  wire : Nat
  touched : Bool
  proving : List Nat
deriving DecidableEq, Repr

/-- The capillary part (R78). -/
structure Capillary where
  serial : Nat
  life : Nat
  count : Nat
  interval : Nat
  wearCap : Nat
  kP : Nat
  kF : Nat
deriving DecidableEq, Repr

/-- The nine statistics of a head (R102). -/
structure HeadStats where
  wiresBonded : Nat
  unitsBonded : Nat
  padMisses : Nat
  leadMisses : Nat
  sparkRetries : Nat
  sparkFailures : Nat
  timeouts : Nat
  clamped : Nat
  strays : Nat
deriving DecidableEq, Repr

/-- A head record (R78). `ball` true is BALL. The two timers hold the milliseconds left, none when stopped
(R84, R94). -/
structure Head where
  state : HeadState
  step : Option Step
  claim : Option Claim
  resume : Option ResumePoint
  sparkWire : Nat
  sparkTry : Nat
  ball : Bool
  faultRun : Nat
  positionTimeout : Nat
  bondTimeout : Nat
  sparkTimeout : Nat
  sparkCurrent : Nat
  sparkTime : Nat
  capillary : Capillary
  lifetime : Nat
  stats : HeadStats
  latched : Nat
  stepTimer : Option Nat
  stopTimer : Option Nat
deriving DecidableEq, Repr

/-! ## Bond Settings Unit -/

/-- The content of a READING taken (R104). -/
inductive Reading
  | temperature (value : Nat) | sensorFault
deriving DecidableEq, Repr

/-- Why the heater gate fails (R107). -/
inductive GateCause
  | absent | stale | sensorFault | low | high
deriving DecidableEq, Repr

/-- The heater gate (R107). -/
inductive Gate
  | pass | fail (cause : GateCause)
deriving DecidableEq, Repr

/-- The kind of a bond order (R109). -/
inductive BondKind
  | first | second | bump
deriving DecidableEq, Repr

/-- A last computation record (R113). -/
structure Computation where
  kind : BondKind
  wire : Nat
  strip : Nat
  column : Nat
  row : Nat
  w : Nat
  d : Int
  p1 : Nat
  p2 : Nat
  p3 : Int
  power : Nat
  f1 : Nat
  force : Nat
  time : Nat
  clamp : Bool
  excursion : Bool
deriving DecidableEq, Repr

/-- The Bond Settings Unit (R104, R106, R115). `freshTimer` holds the milliseconds left, none when stopped. -/
structure Heater where
  last : Option Reading
  lastTemperature : Option Nat
  age : Option Nat
  fresh : Bool
  freshTimer : Option Nat
  gate : Gate
  readings : Nat
  sensorFaults : Nat
  staleExpiries : Nat
  excursions : Nat
  discarded : Nat
  computation1 : Option Computation
  computation2 : Option Computation
deriving DecidableEq, Repr

/-! ## Quality Unit -/

/-- The miss policy of a class (R117). -/
inductive MissPolicy
  | stop | continue_
deriving DecidableEq, Repr

/-- The qualification state of a class; the lapse reason is present in LAPSED only (R118). -/
inductive LapseReason
  | lowResult | lowAverage | overdue | repeatLow
deriving DecidableEq, Repr

inductive ClassState
  | proving | qualified | watch | lapsed (reason : LapseReason)
deriving DecidableEq, Repr

/-- The failure mode of a pull (R118). -/
inductive PullMode
  | ballLift | neck | span | heel | stitchLift
deriving DecidableEq, Repr

/-- The settings of a class (R117). -/
structure ClassSettings where
  pMin : Nat
  pMax : Nat
  fMin : Nat
  fMax : Nat
  trim : Int
  trimStep : Nat
  missPolicy : MissPolicy
  pullMin : Nat
  watchLevel : Nat
  shift : Nat
  bandWidth : Nat
  provingUnits : Nat
  resultsRequired : Nat
  recovery : Nat
deriving DecidableEq, Repr

/-- The class statistics that TAKE zeroes (R118, R134): eight band counts, five mode counts and two totals. -/
structure ClassStats where
  bands : List Nat
  ballLift : Nat
  neck : Nat
  span : Nat
  heel : Nat
  stitchLift : Nat
  belowMin : Nat
  results : Nat
deriving DecidableEq, Repr

/-- A class record (R117, R118). -/
structure WireClass where
  id : Nat
  settings : ClassSettings
  state : ClassState
  ewma : Option Nat
  budget : Nat
  resultsSince : Nat
  lows : Nat
  goods : Nat
  least : Option Nat
  greatest : Option Nat
  stats : ClassStats
  lifetime : Nat
deriving DecidableEq, Repr

/-- The kind of a sample (R136). -/
inductive SampleKind
  | plan | oneShot | proving
deriving DecidableEq, Repr

/-- An entry of a ticket's wire list (R142). -/
structure TicketWire where
  wire : Nat
  cls : Nat
  reported : Bool
deriving DecidableEq, Repr

/-- A ticket (R142). -/
structure Ticket where
  number : Nat
  strip : Nat
  column : Nat
  row : Nat
  program : Nat
  generation : Nat
  kind : SampleKind
  wires : List TicketWire
  serial : Nat
  count : Nat
  head : HeadId
  remaining : Nat
deriving DecidableEq, Repr

/-- The sampling record of a program (R135). -/
structure Sampling where
  program : Nat
  sequence : Nat
  armed : Bool
  emptySelections : Nat
  missedSamples : Nat
deriving DecidableEq, Repr

/-- The six result counts of the ticket summary (R151). -/
structure ResultCounts where
  late : Nat
  noSuchWire : Nat
  duplicates : Nat
  badFields : Nat
  badFrames : Nat
  overScale : Nat
deriving DecidableEq, Repr

/-- The Quality Unit (R116, R66, R135, R142, R151). -/
structure Quality where
  classes : List WireClass
  admission1 : Option (List Nat)
  admission2 : Option (List Nat)
  tickets : List Ticket
  nextTicket : Nat
  sampling : List Sampling
  counts : ResultCounts
deriving DecidableEq, Repr

/-- The receiver of the pull gauge port: the bytes of the frame in progress and what is left of its limit
(R145, R187). -/
structure Gauge where
  bytes : List Byte
  limit : Option Nat
deriving DecidableEq, Repr

/-! ## Screen Engine and Touch Interface -/

/-- Frame memory: (pixel number, palette index) pairs, pixel (x, y) being number 800 y + x. Numbers strictly rise and
no entry holds 0, which an unlisted pixel reads as (R152). -/
abbrev Memory := List Host.Cell

/-- The colour map (R153). -/
structure ColourMap where
  skip : Nat
  pending : Nat
  claimed : Nat
  bonded : Nat
  fault : Nat
  rework : Nat
  reject : Nat
  pullPending : Nat
  pullDone : Nat
deriving DecidableEq, Repr

/-- What a STRIP_MAP panel is bound to (R154). -/
inductive Zone
  | preheat | window | exit
deriving DecidableEq, Repr

/-- The kind of a panel with its binding (R154). -/
inductive PanelKind
  | zoneMap (zone : Zone)
  | stripMap (strip : Nat)
  | head (h : HeadId)
  | classPage (page : Nat)
  | tickets
  | magazine (side : Side)
  | text
  | canvas
deriving DecidableEq, Repr

/-- A panel record less its canvas-cleared flag (R154). -/
structure Panel where
  number : Nat
  kind : PanelKind
  x : Nat
  y : Nat
  width : Nat
  height : Nat
  background : Nat
  foreground : Nat
  blink : Bool
  period : Nat
  visible : Bool
  text : List Nat
deriving DecidableEq, Repr

/-- A panel of the active copy with its canvas-cleared flag and its blink counter (R155, R166). -/
structure ActivePanel where
  panel : Panel
  canvasCleared : Bool
  counter : Nat
deriving DecidableEq, Repr

/-- A draw request (R163). -/
structure Draw where
  panel : Nat
  index : Nat
  shape : DrawShape
deriving DecidableEq, Repr

/-- A cell of a strip map as a render draws it, relative to the panel (R161). -/
structure MapCell where
  x : Nat
  y : Nat
  width : Nat
  height : Nat
  fill : Nat
  border : Option Nat
deriving DecidableEq, Repr

/-- What a render draws: the panel record and the content of its bound record, both as they stood when the render
began (R160). Lines hold character codes. -/
structure Picture where
  panel : Panel
  lines : List (List Nat)
  cells : List MapCell
deriving DecidableEq, Repr

/-- The operation in flight (R159). A draw keeps its panel's record as it stood when it began, none when there was
none (R164). -/
inductive Operation
  | render (picture : Picture)
  | draw (request : Draw) (target : Option Panel)
deriving DecidableEq, Repr

/-- The backlight record; the dim time is in seconds (R167). -/
structure Backlight where
  level : Nat
  off : Bool
  dimLevel : Nat
  dimTime : Nat
deriving DecidableEq, Repr

/-- The Screen Engine (R152 to R167). `paletteShown` is the palette in use since the last frame start (R152). `cleared`
is the model's own field: CLEAR_SCREEN has been taken, and no render of the cleared screen has completed (R165; log 42).
-/
structure Screen where
  frame : Memory
  palette : List Nat
  paletteShown : List Nat
  colours : ColourMap
  active : List ActivePanel
  staged : List Panel
  stale : List Nat
  queue : List Draw
  operation : Option Operation
  cleared : Bool
  renders : Nat
  drawsExecuted : Nat
  drawsDropped : Nat
  backlight : Backlight
deriving DecidableEq, Repr

/-- An operator action the Touch Interface issues (R181). -/
inductive TouchAction
  | rejectUnit | unrejectUnit | hold | resume | abort | requalify
deriving DecidableEq, Repr

/-- The touch part of the latest-touch record (R172). -/
structure TouchPart where
  panel : Nat
  x : Nat
  y : Nat
deriving DecidableEq, Repr

/-- The refusal part of the latest-touch record; its presence is the TOUCH_REFUSED mark (R172). -/
structure Refused where
  panel : Nat
  action : TouchAction
  status : Status
deriving DecidableEq, Repr

/-- The Touch Interface (R168, R169, R171, R172). `sincePress` is the time since the last press taken in milliseconds,
which an AMEND of the dim time leaves (R167, R180). -/
structure Touch where
  dimmed : Bool
  dimTimer : Nat
  sincePress : Nat
  pressed : Bool
  presses : Nat
  refusals : Nat
  latest : Option TouchPart
  refused : Option Refused
  supervisor : Bool
deriving DecidableEq, Repr

/-! ## Link Interface -/

/-- The feed's running state that a LOOK of CELL adds (R28). -/
structure FeedView where
  input : GroupContext
  track : GroupContext
  output : GroupContext
  inPresent : Bool
  outPresent : Bool
  inScanDue : Bool
  outScanDue : Bool
  preheat : Option Nat
  window : Option Nat
  exit : Option Nat
  soak : Soak
  inTarget : Option Nat
  outTarget : Option Nat
deriving DecidableEq, Repr

/-- What a LOOK of CELL returns: every owner's fields and the running state of R28 and R61 (R180). -/
structure CellView where
  program : Nat
  lot : Nat
  inCount : Nat
  outCount : Nat
  run : Bool
  cell : Cell
  feed : FeedView
  arbiter : Arbiter
deriving DecidableEq, Repr

/-- What a LOOK of PROGRAM returns (R60, R180). -/
structure ProgramView where
  program : Program
  memoryFree : Nat
  sampling : Option Sampling
deriving DecidableEq, Repr

/-- What a LOOK of HEATER returns (R115). -/
structure HeaterView where
  heater : Heater
  setPoint : Nat
  window : Nat
  gain : Nat
deriving DecidableEq, Repr

/-- The ticket summary (R151). -/
structure TicketSummary where
  pending : Nat
  next : Nat
  dueCount : Nat
  counts : ResultCounts
deriving DecidableEq, Repr

/-- The engine summary, key 16 of PANEL (R155): the kind of the operation in flight (false render, true draw) with
its panel. -/
structure EngineView where
  stale : List Nat
  queued : Nat
  operation : Option (Bool × Nat)
  renders : Nat
  executed : Nat
  dropped : Nat
deriving DecidableEq, Repr

/-- What a LOOK of BACKLIGHT returns (R167, R180). -/
structure BacklightView where
  backlight : Backlight
  dimmed : Bool
  level : Nat
  sincePress : Nat
deriving DecidableEq, Repr

/-- The link state (R175). -/
inductive LinkState
  | idle | processing | answered
deriving DecidableEq, Repr

/-- The six counts of the LINK table (R184). -/
structure LinkCounts where
  requests : Nat
  badFrames : Nat
  overruns : Nat
  discarded : Nat
  emptyReads : Nat
  ignored : Nat
deriving DecidableEq, Repr

/-- What a LOOK of LINK returns (R184). -/
structure LinkView where
  state : LinkState
  overrun : Bool
  lastTag : Nat
  counts : LinkCounts
deriving DecidableEq, Repr

/-- What a LOOK of ATTENTION returns (R183). -/
structure AttentionView where
  flags : FlagSet
  mask : FlagSet
  line : Bool
deriving DecidableEq, Repr

/-- The body of a response, as the owner gives it (R175). `keys` holds the keys of a LIST. -/
inductive Body
  | none
  | keys (keys : List TableKey)
  | cell (v : CellView)
  | strip (r : Strip)
  | inslot (slot : Nat) (r : InSlot)
  | outslot (slot : Nat) (r : OutSlot)
  | program (v : ProgramView)
  | wire (index : Nat) (w : Wire)
  | loop (entry : Nat) (r : LoopShape)
  | cls (c : WireClass)
  | ticket (t : Ticket)
  | ticketSummary (v : TicketSummary)
  | head (number : Nat) (h : Head)
  | heater (v : HeaterView)
  | panel (p : Panel) (canvasCleared : Bool)
  | engine (v : EngineView)
  | colourMap (palette : List Nat) (map : ColourMap)
  | backlight (v : BacklightView)
  | touch (t : Touch)
  | attention (v : AttentionView)
  | link (v : LinkView)
  | discarded (count : Nat)
deriving DecidableEq, Repr

/-- An owner's answer (R175): status, body, and the more and over-scale marks of R186. -/
structure Answer where
  status : Status
  body : Body
  more : Bool
  overScale : Bool
deriving DecidableEq, Repr

/-- The request slot: the tag, kind and table or action code of the request, and its owner's answer once given
(R175). -/
structure RequestSlot where
  tag : Nat
  kind : Nat
  code : Nat
  answer : Option Answer
deriving DecidableEq, Repr

/-- A response (R175). -/
structure Response where
  answer : Answer
  overrun : Bool
  tag : Nat
  kind : Nat
  code : Nat
  flags : FlagSet
deriving DecidableEq, Repr

/-- The Link Interface (R175, R176, R183, R184). -/
structure Link where
  request : Option RequestSlot
  response : Option Response
  overrun : Bool
  lastTag : Nat
  counts : LinkCounts
  flags : FlagSet
  mask : FlagSet
deriving DecidableEq, Repr

/-! ## What arrives on the machinery links -/

/-- The receivers of the machinery links: the bytes of the frame in progress on each, none while the receiver waits for
7Eh (R188). -/
structure Receivers where
  head1 : List Byte
  head2 : List Byte
  track : List Byte
  heater : List Byte
  touch : List Byte
deriving DecidableEq, Repr

/-! ## What the part puts on its ports -/

/-- An order on a head link (R80). -/
inductive HeadOrder
  | position (p : Point)
  | firstBond (power force time : Nat)
  | secondBond (power force time : Nat)
  | bump (power force time : Nat)
  | loop (shape : LoopShape) (second : Point)
  | tail (length : Nat)
  | spark (current time : Nat)
  | stop
deriving DecidableEq, Repr

/-- What the last command put on the ports: orders on the head and track links in the order sent, verdict bytes on
the gauge port (R145), the link status byte of a transaction, the bytes a READ shifted out after it, and the byte that a
REQUEST shifts out during every byte after its type byte (R174, R177). The model's own field, log 22. -/
structure Outputs where
  head1 : List HeadOrder
  head2 : List HeadOrder
  track : List (Group × Order)
  verdicts : List Byte
  linkStatus : Option Byte
  linkBytes : List Byte
  linkFill : Option Byte
deriving DecidableEq, Repr

/-- Announcements a block has still to act on inside the step: a re-examination by the arbiter (R69), the moves of a
group (R29), the Screen Engine's choice (R159). All clear between steps. The model's own field, log 22. -/
structure Due where
  arbiter : Bool
  input : Bool
  track : Bool
  output : Bool
  engine : Bool
deriving DecidableEq, Repr

/-! ## The whole part -/

/-- The state of the part. `pending` holds the commands that wait, first in first out. -/
structure State where
  store : Store
  feed : Feed
  cell : Cell
  programs : List Program
  loops : List LoopShape
  arbiter : Arbiter
  head1 : Head
  head2 : Head
  heater : Heater
  quality : Quality
  gauge : Gauge
  screen : Screen
  touch : Touch
  link : Link
  receivers : Receivers
  out : Outputs
  due : Due
  pending : List Instr
deriving DecidableEq, Repr

/-- Reasons the part stops. There is none: every request is answered with a status (R178) and every event the part does
not expect is discarded or counted (R20, R97, R188). Log 27. -/
inductive Fault
deriving DecidableEq, Repr

/-- Reasons the model gives a command no meaning. -/
inductive Refusal
  /-- Raised by an arm of `exec` whose command has no meaning yet; no arm raises it. Safe. -/
  | notModelled (mnemonic : String)
deriving DecidableEq, Repr

/-! ## Power-on reset -/

/-- Nothing sent. -/
def Outputs.empty : Outputs :=
  { head1 := [], head2 := [], track := [], verdicts := [], linkStatus := none, linkBytes := [],
    linkFill := none }

/-- Every receiver waits for 7Eh with no byte held, after power-on reset too, for which R101, R103 and R188 give no value:
DESIGN CHOICE (log 18). -/
def Receivers.reset : Receivers := { head1 := [], head2 := [], track := [], heater := [], touch := [] }

/-- No announcement waits. -/
def Due.none : Due :=
  { arbiter := false, input := false, track := false, output := false, engine := false }

/-- An IDLE group (R43). -/
def GroupContext.reset : GroupContext := { state := .idle, jammed := none, timer := none, limit := 0 }

/-- An UNKNOWN input slot with no map and no tag (R43). -/
def InSlot.reset : InSlot := { state := .unknown, map := none, tag := none }

/-- The Feed Controller after power-on reset, with the presence lines as sampled (R43, R28, R32). -/
def Feed.reset (inPresent outPresent : Bool) : Feed :=
  { run := false, input := .reset, track := .reset, output := .reset,
    inSlots := List.replicate 20 .reset, outSlots := List.replicate 20 .unknown,
    inTarget := none, outTarget := none, inPresent, outPresent,
    inScanDue := inPresent, outScanDue := outPresent,
    preheat := none, window := none, exit := none, soak := .idle, beforeIndex := none }

/-- The cell record after power-on reset (R28, R63, R90, R108, R142). -/
def Cell.reset : Cell :=
  { inDirection := .bottomUp, outDirection := .bottomUp,
    elevate := 5000, push := 3000, transfer := 4000, index := 1000,
    width := 4, clearance := 2, missRun := 3, dueCount := 4,
    setPoint := 400, window := 10, gain := 0 }

/-- A loop shape entry after power-on reset (R59). -/
def LoopShape.reset : LoopShape := { height := 250, reverse := 0, kink := 0, profile := .standard }

/-- A head's statistics at zero (R102). -/
def HeadStats.zero : HeadStats :=
  { wiresBonded := 0, unitsBonded := 0, padMisses := 0, leadMisses := 0, sparkRetries := 0,
    sparkFailures := 0, timeouts := 0, clamped := 0, strays := 0 }

/-- A head record after power-on reset (R78). -/
def Head.reset : Head :=
  { state := .off, step := none, claim := none, resume := none, sparkWire := 0, sparkTry := 1,
    ball := false, faultRun := 0, positionTimeout := 500, bondTimeout := 50, sparkTimeout := 10,
    sparkCurrent := 40, sparkTime := 120,
    capillary := { serial := 0, life := 1000000, count := 0, interval := 5000, wearCap := 0, kP := 0, kF := 0 },
    lifetime := 0, stats := .zero, latched := 0, stepTimer := none, stopTimer := none }

/-- The heater reading record after power-on reset (R104). -/
def Heater.reset : Heater :=
  { last := none, lastTemperature := none, age := none, fresh := false, freshTimer := none,
    gate := .fail .absent, readings := 0, sensorFaults := 0, staleExpiries := 0, excursions := 0,
    discarded := 0, computation1 := none, computation2 := none }

/-- The six result counts at zero (R150). -/
def ResultCounts.zero : ResultCounts :=
  { late := 0, noSuchWire := 0, duplicates := 0, badFields := 0, badFrames := 0, overScale := 0 }

/-- The Quality Unit after power-on reset (R116, R72, R150). -/
def Quality.reset : Quality :=
  { classes := [], admission1 := none, admission2 := none, tickets := [], nextTicket := 1,
    sampling := [], counts := .zero }

/-- The default palette (R152). -/
def defaultPalette : List Nat :=
  [0x0000, 0xFFFF, 0x4208, 0xC618, 0xF800, 0x07E0, 0x001F, 0xFFE0,
   0x07FF, 0xF81F, 0xFC00, 0x03E0, 0x7800, 0x000F, 0x7BE0, 0x780F]

/-- The colour map after power-on reset (R153). -/
def ColourMap.reset : ColourMap :=
  { skip := 2, pending := 3, claimed := 7, bonded := 5, fault := 4, rework := 10, reject := 9,
    pullPending := 8, pullDone := 1 }

/-- The Screen Engine after power-on reset (R152, R153, R167, R173). -/
def Screen.reset : Screen :=
  { frame := [], palette := defaultPalette, paletteShown := defaultPalette, colours := .reset,
    active := [], staged := [], stale := [], queue := [], operation := none, cleared := false,
    renders := 0, drawsExecuted := 0, drawsDropped := 0,
    backlight := { level := 128, off := false, dimLevel := 16, dimTime := 0 } }

/-- The Touch Interface after power-on reset, with the key switch line as sampled (R168, R169, R171, R172). -/
def Touch.reset (supervisor : Bool) : Touch :=
  { dimmed := false, dimTimer := 0, sincePress := 0, pressed := false, presses := 0, refusals := 0,
    latest := none, refused := none, supervisor }

/-- The six counts of the LINK table at zero (R184). -/
def LinkCounts.zero : LinkCounts :=
  { requests := 0, badFrames := 0, overruns := 0, discarded := 0, emptyReads := 0, ignored := 0 }

/-- The Link Interface after power-on reset (R184). -/
def Link.reset : Link :=
  { request := none, response := none, overrun := false, lastTag := 0, counts := .zero, flags := 0, mask := 0 }

/-- Every block at its power-on value, with the three lines sampled at reset and the waiting commands given
(R43, R171). -/
def State.atPowerOn (inPresent outPresent supervisor : Bool) (pending : List Instr) : State :=
  { store := { strips := [], nextStrip := 1, lot := 0, program := 0 },
    feed := .reset inPresent outPresent, cell := .reset, programs := [], loops := List.replicate 24 .reset,
    arbiter := { window := .closed, clearance := 2, first := .one },
    head1 := .reset, head2 := .reset, heater := .reset, quality := .reset,
    gauge := { bytes := [], limit := none }, screen := .reset, touch := .reset supervisor, link := .reset,
    receivers := .reset, out := .empty, due := .none, pending }

/-- The part right after power-on reset. DESIGN CHOICE (log 4): the presence lines read low and the key switch line
reads OPERATOR. -/
def State.reset : State := .atPowerOn false false false []

end Sys2Proof.Machine
end

