-- ==== Sys2Proof/Machine/Operands.lean ====
section
/-! DEFINITION. The ranges of operand values and what the codes of a frame name: each test here is the range an owner
judges a field by (R178), each `…OfCode` the value a code stands for, numbered from 1 in the order the owning chapter
lists its values (R185). -/

namespace Sys2Proof.Machine

/-- A value from lo to hi, both included. -/
def inRange (lo hi n : Nat) : Bool := decide (lo ≤ n) && decide (n ≤ hi)

/-! ## Codes -/

def directionOfCode : Nat → Option Direction
  | 1 => some .bottomUp
  | 2 => some .topDown
  | _ => none

def profileOfCode : Nat → Option Profile
  | 1 => some .low
  | 2 => some .standard
  | 3 => some .square
  | _ => none

def missPolicyOfCode : Nat → Option MissPolicy
  | 1 => some .stop
  | 2 => some .continue_
  | _ => none

/-- The failure modes (R187). -/
def pullModeOfCode : Nat → Option PullMode
  | 1 => some .ballLift
  | 2 => some .neck
  | 3 => some .span
  | 4 => some .heel
  | 5 => some .stitchLift
  | _ => none

def zoneOfCode : Nat → Option Zone
  | 1 => some .preheat
  | 2 => some .window
  | 3 => some .exit
  | _ => none

/-! ## Slots (R27) -/

/-- The place of a position in unit order over the widest grid. -/
def posKey (p : Pos) : Nat := p.column * 16 + p.row

/-- A position a map may name: column 1 to 40, row 1 to 8. -/
def posOk (p : Pos) : Bool := inRange 1 40 p.column && inRange 1 8 p.row

/-- No entry of a list stands twice. -/
def noRepeat {α : Type} [DecidableEq α] : List α → Bool
  | [] => true
  | a :: rest => !(rest.contains a) && noRepeat rest

/-- A map that is taken: positions in range, none twice, at most 320. -/
def mapOk (m : List Pos) : Bool := m.all posOk && noRepeat m && decide (m.length ≤ 320)

/-! ## Programs (R44, R46) -/

/-- A name: 0 to 16 characters of codes 32 to 126. -/
def nameOk (codes : List Nat) : Bool := decide (codes.length ≤ 16) && codes.all (inRange 32 126)

/-- A filter: value and mask 0 to 1,023. -/
def filterOk (f : Filter) : Bool := inRange 0 1023 f.value && inRange 0 1023 f.mask

/-- A plan: period and run 1 to 1,000, offset 0 to 999. -/
def planOk (p : Plan) : Bool := inRange 1 1000 p.period && inRange 0 999 p.offset && inRange 1 1000 p.run

/-- Every field of a copy but its wires lies in its range. -/
def copyOk (c : ProgramCopy) : Bool :=
  nameOk c.name && inRange 1 40 c.columns && inRange 1 8 c.rows && inRange 0 65535 c.pitchX &&
    inRange 0 65535 c.pitchY && inRange 0 120 c.soak && planOk c.plan && filterOk c.filter1 &&
    filterOk c.filter2 && filterOk c.filter3 && filterOk c.filter4

/-- A point: x and y 0 to 65,535, z 0 to 2,000. -/
def pointOk (p : Point) : Bool := inRange 0 65535 p.x && inRange 0 65535 p.y && inRange 0 2000 p.z

/-- A bond set: power 0 to 1,000, force 5 to 250, time 1 to 500. -/
def bondSetOk (b : BondSet) : Bool := inRange 0 1000 b.power && inRange 5 250 b.force && inRange 1 500 b.time

/-- A wire record's fields lie in their ranges. -/
def wireOk (w : Wire) : Bool :=
  inRange 1 32 w.cls && pointOk w.first && pointOk w.second && inRange 1 24 w.loop && bondSetOk w.firstBond &&
    bondSetOk w.secondBond && inRange 0 2000 w.tail && w.bump.all bondSetOk

/-- A loop shape: height 50 to 1,000, reverse 0 to 300, kink 0 to 500 and no greater than the height (R59). -/
def loopOk (l : LoopShape) : Bool :=
  inRange 50 1000 l.height && inRange 0 300 l.reverse && inRange 0 500 l.kink && decide (l.kink ≤ l.height)

/-! ## Classes (R117) -/

/-- Every setting lies in its range and the record is consistent. -/
def classOk (c : ClassSettings) : Bool :=
  inRange 0 1000 c.pMin && inRange 0 1000 c.pMax && inRange 5 250 c.fMin && inRange 5 250 c.fMax &&
    decide (-8 ≤ c.trim) && decide (c.trim ≤ 8) && inRange 1 20 c.trimStep && inRange 0 2000 c.pullMin &&
    inRange 0 2000 c.watchLevel && inRange 1 6 c.shift && inRange 1 200 c.bandWidth && inRange 1 8 c.provingUnits &&
    inRange 1 64 c.resultsRequired && inRange 1 32 c.recovery &&
    decide (c.pMin ≤ c.pMax) && decide (c.fMin ≤ c.fMax) && decide (c.pullMin ≤ c.watchLevel)

/-! ## Heads (R78) -/

/-- A claim context an AMEND of HEAD gives lies in its ranges. -/
def claimOk (c : ClaimBody) : Bool :=
  inRange 1 4294967295 c.strip && inRange 1 40 c.column && inRange 1 8 c.row && inRange 0 600 c.wireCount &&
    inRange 1 600 c.wire && c.proving.all (inRange 1 32)

/-- A field that no AMEND writes lies in its range, L being the life that bounds N. A part that is absent does. -/
def lockedHeadFieldOk (life : Nat) : LockedHeadField → Bool
  | .state code => inRange 1 8 code
  | .step code => code.all (inRange 1 11)
  | .reason code => code.all fun r => inRange 1 16 r.1 && (r.1 != 15 || inRange 1 255 r.2)
  | .claim c => c.all claimOk
  | .resume point => point.all fun p => inRange 1 600 p.1 && inRange 1 2 p.2
  | .sparkWire n => inRange 0 600 n
  | .sparkTry n => inRange 1 3 n
  | .ball code => inRange 1 2 code
  | .faultRun n => inRange 0 255 n
  | .stopTimeout n => n == Config.stopTimeout
  | .serial n => inRange 0 65535 n
  | .count n => inRange 0 life n
  | .lifetime n => decide (n < 2 ^ 48)
  | .statistic _ n => inRange 0 65535 n
  | .latched n => inRange 0 255 n

/-- A field an AMEND of HEAD gives lies in its range, for a head of the given life. -/
def headFieldOk (life : Nat) : HeadField → Bool
  | .positionTimeout n => inRange 1 2000 n
  | .bondTimeout n => inRange 1 200 n
  | .sparkTimeout n => inRange 1 50 n
  | .sparkCurrent n => inRange 1 100 n
  | .sparkTime n => inRange 1 500 n
  | .life n => inRange 10000 2000000 n
  | .wearInterval n => inRange 100 100000 n
  | .wearCap n => inRange 0 15 n
  | .kP n => inRange 0 20 n
  | .kF n => inRange 0 5 n
  | .locked f => lockedHeadFieldOk life f

/-! ## Panels (R154) -/

/-- The kind a code and a binding make: the binding must fit the kind, and its value the range of what it names; a strip
id is 1 to 4,294,967,295. A form byte above 5 fits no kind: BAD_FIELD by R154, where R185 could make it BAD_FRAME,
DESIGN CHOICE (log 17). -/
def panelKindOf (kind : Nat) (b : BindingCode) : Option PanelKind :=
  match kind, b.form with
  | 1, 1 => (zoneOfCode b.value).map .zoneMap
  | 1, 2 => if inRange 1 4294967295 b.value then some (.stripMap b.value) else none
  | 2, 3 => if b.value = 1 then some (.head .one) else if b.value = 2 then some (.head .two) else none
  | 3, 4 => if inRange 1 4 b.value then some (.classPage b.value) else none
  | 4, 0 => if b.value = 0 then some .tickets else none
  | 5, 5 => if b.value = 1 then some (.magazine .input) else if b.value = 2 then some (.magazine .output) else none
  | 6, 0 => if b.value = 0 then some .text else none
  | 7, 0 => if b.value = 0 then some .canvas else none
  | _, _ => none

/-- A rectangle: x to 792 and y to 472, width 8 to 800 and height 8 to 480, each a multiple of 8. -/
def rectOk (x y width height : Nat) : Bool :=
  decide (x ≤ 792) && decide (y ≤ 472) && inRange 8 800 width && inRange 8 480 height &&
    decide (x % 8 = 0) && decide (y % 8 = 0) && decide (width % 8 = 0) && decide (height % 8 = 0)

/-- The panel record a body makes, when every value is in range and text is given to a TEXT panel alone. -/
def panelOf (number : Nat) (b : PanelBody) : Option Panel :=
  match panelKindOf b.kind b.binding with
  | some kind =>
    if rectOk b.x b.y b.width b.height && inRange 0 15 b.background && inRange 0 15 b.foreground &&
        inRange 8 120 b.period && decide (b.text.length ≤ 64) && b.text.all (inRange 0 255) &&
        (decide (kind = .text) || b.text.isEmpty) then
      some { number, kind, x := b.x, y := b.y, width := b.width, height := b.height,
             background := b.background, foreground := b.foreground, blink := b.blink, period := b.period,
             visible := b.visible, text := b.text }
    else none
  | none => none

/-- The kind and binding codes of a panel record (R185). -/
def kindCodes : PanelKind → Nat × BindingCode
  | .zoneMap .preheat => (1, { form := 1, value := 1 })
  | .zoneMap .window => (1, { form := 1, value := 2 })
  | .zoneMap .exit => (1, { form := 1, value := 3 })
  | .stripMap n => (1, { form := 2, value := n })
  | .head .one => (2, { form := 3, value := 1 })
  | .head .two => (2, { form := 3, value := 2 })
  | .classPage n => (3, { form := 4, value := n })
  | .tickets => (4, { form := 0, value := 0 })
  | .magazine .input => (5, { form := 5, value := 1 })
  | .magazine .output => (5, { form := 5, value := 2 })
  | .text => (6, { form := 0, value := 0 })
  | .canvas => (7, { form := 0, value := 0 })

/-- A panel record as a frame carries it. -/
def bodyOf (p : Panel) : PanelBody :=
  { kind := (kindCodes p.kind).1, x := p.x, y := p.y, width := p.width, height := p.height,
    binding := (kindCodes p.kind).2, background := p.background, foreground := p.foreground, blink := p.blink,
    period := p.period, visible := p.visible, text := p.text }

/-! ## Draws (R163) -/

/-- The arguments of a draw lie in their ranges, and its kind is one of the six. R163 gives no range for the length of
H_LINE and V_LINE: 0 to 1,023, as FILL_RECT's width and height, is DESIGN CHOICE (log 39). -/
def shapeOk : DrawShape → Bool
  | .fillRect x y w h => inRange 0 1023 x && inRange 0 1023 y && inRange 0 1023 w && inRange 0 1023 h
  | .hLine x y l => inRange 0 1023 x && inRange 0 1023 y && inRange 0 1023 l
  | .vLine x y l => inRange 0 1023 x && inRange 0 1023 y && inRange 0 1023 l
  | .line x0 y0 x1 y1 => inRange 0 1023 x0 && inRange 0 1023 y0 && inRange 0 1023 x1 && inRange 0 1023 y1
  | .circle cx cy r form => inRange 0 1023 cx && inRange 0 1023 cy && inRange 0 511 r && inRange 1 2 form
  | .glyphs x y codes =>
    inRange 0 1023 x && inRange 0 1023 y && inRange 1 32 codes.length && codes.all (inRange 0 255)
  | .unknown _ => false

end Sys2Proof.Machine
end

