-- ==== Sys2Proof/Machine/Ops.lean ====
section
/-! DEFINITION. The shared operations over registers, lists and frame memory that every block's file builds on. -/

namespace Sys2Proof.Machine

/-! ## Counters -/

/-- A saturating counter raised by one: it "stops at its maximum and counts no further" (00, Counters). -/
def satSucc (max n : Nat) : Nat := if n < max then n + 1 else max

/-- A 16-bit saturating count raised by one. -/
def count16 (n : Nat) : Nat := satSucc 65535 n

/-- An 8-bit saturating count raised by one. -/
def count8 (n : Nat) : Nat := satSucc 255 n

/-- A wrapping counter raised by one: it "continues from zero after its maximum" (00, Counters). -/
def wrapSucc (max n : Nat) : Nat := if n < max then n + 1 else 0

/-- A number assigned in ascending order, raised by one; past the last 32-bit number the manual states nothing and the
free value stands (00, Identifiers; log 7). -/
def nextNumber (afterLast n : Nat) : Nat := if n < 4294967295 then n + 1 else afterLast

/-- A timer one millisecond later. -/
def countDown (t : Option Nat) : Option Nat := t.map (· - 1)

/-! ## Sets of numbers -/

/-- Adds a number to an ascending list without repeats. -/
def insertNat (n : Nat) : List Nat → List Nat
  | [] => [n]
  | m :: rest => if n < m then n :: m :: rest else if n = m then m :: rest else m :: insertNat n rest

/-- The numbers of a list in ascending order without repeats. -/
def sortedSet (ns : List Nat) : List Nat := ns.foldl (fun set n => insertNat n set) []

/-! ## Records kept in ascending order of a key -/

/-- Inserts a record into a list kept in ascending order of a key; a record of the same key is replaced. -/
def insertBy {α : Type} (key : α → Nat) (r : α) : List α → List α
  | [] => [r]
  | q :: rest =>
    if key r < key q then r :: q :: rest
    else if key r = key q then r :: rest
    else q :: insertBy key r rest

/-- The record of a key. -/
def findBy {α : Type} (key : α → Nat) (k : Nat) (rs : List α) : Option α := rs.find? fun r => key r == k

/-- Changes the record of a key and no other. -/
def updateBy {α : Type} (key : α → Nat) (k : Nat) (f : α → α) (rs : List α) : List α :=
  rs.map fun r => if key r = k then f r else r

/-- Removes the record of a key. -/
def removeBy {α : Type} (key : α → Nat) (k : Nat) (rs : List α) : List α := rs.filter fun r => key r != k

/-- The n-th entry of a list numbered from 1. -/
def nth {α : Type} (rs : List α) (n : Nat) : Option α := if n = 0 then none else rs[n - 1]?

/-- Changes the n-th entry of a list numbered from 1. -/
def updateNth {α : Type} (rs : List α) (n : Nat) (f : α → α) : List α := if n = 0 then rs else rs.modify (n - 1) f

/-! ## Heads -/

/-- The number of a head, 1 or 2. -/
def headNumber : HeadId → Nat
  | .one => 1
  | .two => 2

/-- The head a number names; none outside 1 and 2. -/
def headOfNumber : Nat → Option HeadId
  | 1 => some .one
  | 2 => some .two
  | _ => none

/-- The other head. -/
def otherHead : HeadId → HeadId
  | .one => .two
  | .two => .one

/-- The record of a head. -/
def State.head (s : State) : HeadId → Head
  | .one => s.head1
  | .two => s.head2

/-- Writes the record of a head. -/
def State.setHead (s : State) (h : HeadId) (r : Head) : State :=
  match h with
  | .one => { s with head1 := r }
  | .two => { s with head2 := r }

/-- Changes the record of a head. -/
def State.onHead (s : State) (h : HeadId) (f : Head → Head) : State := s.setHead h (f (s.head h))

/-- Changes a head's statistics. -/
def State.onStats (s : State) (h : HeadId) (f : HeadStats → HeadStats) : State :=
  s.onHead h fun r => { r with stats := f r.stats }

/-- Returns a head link receiver to waiting for 7Eh (R101, R188). -/
def State.resetReceiver (s : State) (h : HeadId) : State :=
  match h with
  | .one => { s with receivers := { s.receivers with head1 := [] } }
  | .two => { s with receivers := { s.receivers with head2 := [] } }

/-- The admission record of a head (R66). -/
def State.admission (s : State) : HeadId → Option (List Nat)
  | .one => s.quality.admission1
  | .two => s.quality.admission2

/-- Writes the admission record of a head. -/
def State.setAdmission (s : State) (h : HeadId) (a : Option (List Nat)) : State :=
  match h with
  | .one => { s with quality := { s.quality with admission1 := a } }
  | .two => { s with quality := { s.quality with admission2 := a } }

/-! ## Groups -/

/-- The context of an axis group. -/
def State.group (s : State) : Group → GroupContext
  | .input => s.feed.input
  | .track => s.feed.track
  | .output => s.feed.output

/-- Writes the context of an axis group. -/
def State.setGroup (s : State) (g : Group) (c : GroupContext) : State :=
  match g with
  | .input => { s with feed := { s.feed with input := c } }
  | .track => { s with feed := { s.feed with track := c } }
  | .output => { s with feed := { s.feed with output := c } }

/-- The axis group a code names: INPUT 1, TRACK 2, OUTPUT 3 (R188). -/
def groupOfCode : Nat → Option Group
  | 1 => some .input
  | 2 => some .track
  | 3 => some .output
  | _ => none

/-! ## Records by key -/

/-- The record of a strip (R1). -/
def State.strip (s : State) (id : Nat) : Option Strip := findBy Strip.id id s.store.strips

/-- Changes the record of a strip. -/
def State.onStrip (s : State) (id : Nat) (f : Strip → Strip) : State :=
  { s with store := { s.store with strips := updateBy Strip.id id f s.store.strips } }

/-- The record of a program (R44). -/
def State.program (s : State) (id : Nat) : Option Program := findBy Program.id id s.programs

/-- Changes the record of a program. -/
def State.onProgram (s : State) (id : Nat) (f : Program → Program) : State :=
  { s with programs := updateBy Program.id id f s.programs }

/-- The record of a class (R116). -/
def State.cls (s : State) (id : Nat) : Option WireClass := findBy WireClass.id id s.quality.classes

/-- Changes the record of a class. -/
def State.onClass (s : State) (id : Nat) (f : WireClass → WireClass) : State :=
  { s with quality := { s.quality with classes := updateBy WireClass.id id f s.quality.classes } }

/-- A pending ticket (R142). -/
def State.ticket (s : State) (n : Nat) : Option Ticket := findBy Ticket.number n s.quality.tickets

/-- The sampling record of a program (R135). -/
def State.sampling (s : State) (program : Nat) : Option Sampling :=
  findBy Sampling.program program s.quality.sampling

/-- Changes the sampling record of a program. -/
def State.onSampling (s : State) (program : Nat) (f : Sampling → Sampling) : State :=
  { s with quality := { s.quality with sampling := updateBy Sampling.program program f s.quality.sampling } }

/-- An active panel (R155). -/
def State.panel (s : State) (n : Nat) : Option ActivePanel := findBy (·.panel.number) n s.screen.active

/-! ## Outputs and announcements -/

/-- The state a command starts from: nothing sent yet and no announcement waiting (log 22). -/
def State.begun (s : State) : State := { s with out := .empty, due := .none }

/-- Sends an order on a head link (R80). -/
def State.sendHead (s : State) (h : HeadId) (o : HeadOrder) : State :=
  match h with
  | .one => { s with out := { s.out with head1 := s.out.head1 ++ [o] } }
  | .two => { s with out := { s.out with head2 := s.out.head2 ++ [o] } }

/-- Sends an order on the track link (R20). -/
def State.sendTrack (s : State) (g : Group) (o : Order) : State :=
  { s with out := { s.out with track := s.out.track ++ [(g, o)] } }

/-- Sends a verdict byte on the gauge port (R145). -/
def State.sendVerdict (s : State) (b : Byte) : State :=
  { s with out := { s.out with verdicts := s.out.verdicts ++ [b] } }

/-- The arbiter has a re-examination to make (R69). -/
def State.dueArbiter (s : State) : State := { s with due := { s.due with arbiter := true } }

/-- The INPUT group has its moves to examine (R29). -/
def State.dueInput (s : State) : State := { s with due := { s.due with input := true } }

/-- The TRACK group has its moves to examine (R29). -/
def State.dueTrack (s : State) : State := { s with due := { s.due with track := true } }

/-- The OUTPUT group has its moves to examine (R29). -/
def State.dueOutput (s : State) : State := { s with due := { s.due with output := true } }

/-- The Screen Engine has its next operation to choose (R159). -/
def State.dueEngine (s : State) : State := { s with due := { s.due with engine := true } }

/-! ## Frame memory -/

/-- The number of pixels of frame memory (R152). -/
def pixelCount : Nat := Config.screenWidth * Config.screenHeight

/-- The number of pixel (x, y). -/
def pixelNumber (x y : Nat) : Nat := y * Config.screenWidth + x

/-- The palette index of a pixel; an unlisted pixel reads as 0 (R152). -/
def Memory.read (m : Memory) (a : Nat) : Byte :=
  match m with
  | [] => 0
  | (k, v) :: rest => if k = a then v else Memory.read rest a

/-- The canonical form from a least address on: addresses strictly rising and below the pixel count, no entry 0. -/
def Memory.wfFrom (least : Nat) : Memory → Bool
  | [] => true
  | (k, v) :: rest => decide (least ≤ k) && decide (k < pixelCount) && (v != 0) && Memory.wfFrom (k + 1) rest

/-- The canonical form of frame memory. -/
def Memory.wf (m : Memory) : Bool := Memory.wfFrom 0 m

/-- An entry before a memory, left out when it holds what an unlisted pixel reads as. -/
def Memory.put (a : Nat) (v : Byte) (m : Memory) : Memory := if v = 0 then m else (a, v) :: m

/-- Writes n pixels from number a on in a memory that lists none below a: pixel k becomes g k (what it held). -/
def Memory.paintRun (g : Nat → Byte → Byte) : Nat → Nat → Memory → Memory
  | 0, _, m => m
  | n + 1, a, m =>
    match m with
    | [] => Memory.put a (g a 0) (Memory.paintRun g n (a + 1) [])
    | (k, v) :: rest =>
      if k = a then Memory.put a (g a v) (Memory.paintRun g n (a + 1) rest)
      else Memory.put a (g a 0) (Memory.paintRun g n (a + 1) ((k, v) :: rest))

/-- Writes n pixels from number a on, none at or above the pixel count. -/
def Memory.paint (g : Nat → Byte → Byte) (a n : Nat) : Memory → Memory
  | [] => Memory.paintRun g (min n (pixelCount - a)) a []
  | (k, v) :: rest =>
    if k < a then (k, v) :: Memory.paint g a n rest
    else Memory.paintRun g (min n (pixelCount - a)) a ((k, v) :: rest)

/-- Writes the rows from row y on, as many as given, of a rectangle of columns x to x + width − 1. -/
def Memory.paintRows (g : Nat → Byte → Byte) (x width : Nat) : Nat → Nat → Memory → Memory
  | 0, _, m => m
  | rows + 1, y, m => Memory.paintRows g x width rows (y + 1) (Memory.paint g (pixelNumber x y) width m)

end Sys2Proof.Machine
end

