-- ==== Sys2Proof/Machine/Flags.lean ====
section
/-! DEFINITION. The ten attention flags, their mask and the ATTENTION line (R183). -/

namespace Sys2Proof.Machine

/-- The attention flags in the bit order of a response (R186). -/
inductive Attention
  | head1 | head2 | feed | magazine | cls | ticket | strip | touch | render | link
deriving DecidableEq, Repr

/-- The bit of a flag (R186). -/
def Attention.bit : Attention → FlagSet
  | .head1 => 0x001
  | .head2 => 0x002
  | .feed => 0x004
  | .magazine => 0x008
  | .cls => 0x010
  | .ticket => 0x020
  | .strip => 0x040
  | .touch => 0x080
  | .render => 0x100
  | .link => 0x200

/-- The flag of a head. -/
def Attention.ofHead : HeadId → Attention
  | .one => .head1
  | .two => .head2

/-- Sets a flag; a flag already set stays set (R183). -/
def State.raise (s : State) (a : Attention) : State :=
  { s with link := { s.link with flags := s.link.flags ||| a.bit } }

/-- Clears the flags of a set and leaves the others (R183). -/
def State.lower (s : State) (set : FlagSet) : State :=
  { s with link := { s.link with flags := s.link.flags &&& ~~~set } }

/-- The ATTENTION line: raised while a flag is set whose mask bit is set (R183). -/
def State.attentionLine (s : State) : Bool := (s.link.flags &&& s.link.mask) != 0

end Sys2Proof.Machine
end

