-- ==== Sys2Proof/Machine/Stale.lean ====
section
/-! DEFINITION. The stale set of the Screen Engine and what marks a panel (R157, R158). -/

namespace Sys2Proof.Machine

/-- Marks stale the panels of the active copy that a test picks: the visible ones join the set, each once (R157). The
engine has a choice to make when a panel is marked (R159). -/
def State.markPanels (s : State) (p : Panel → Bool) : State :=
  let marked := (s.screen.active.filter fun a => a.panel.visible && p a.panel).map fun a => a.panel.number
  if marked.isEmpty then s
  else
    let stale := marked.foldl (fun set n => insertNat n set) s.screen.stale
    State.dueEngine { s with screen := { s.screen with stale } }

/-- The strip a zone holds (R20). -/
def State.zoneStrip (s : State) : Zone → Option Nat
  | .preheat => s.feed.preheat
  | .window => s.feed.window
  | .exit => s.feed.exit

/-- Marks the panels bound to a strip: by its id, or by the zone it lies in (R158). -/
def State.markStrip (s : State) (id : Nat) : State :=
  s.markPanels fun p =>
    match p.kind with
    | .stripMap n => n == id
    | .zoneMap z => s.zoneStrip z == some id
    | _ => false

/-- Marks the panels bound to a zone that a strip enters or leaves (R158). -/
def State.markZone (s : State) (z : Zone) : State := s.markPanels fun p => p.kind == .zoneMap z

/-- Marks every STRIP_MAP panel (R153). -/
def State.markMaps (s : State) : State :=
  s.markPanels fun p =>
    match p.kind with
    | .stripMap _ => true
    | .zoneMap _ => true
    | _ => false

/-- Marks the HEAD panels bound to a head (R158). -/
def State.markHead (s : State) (h : HeadId) : State := s.markPanels fun p => p.kind == .head h

/-- The page that covers a class: page p covers 8 × (p − 1) + 1 to 8 × p (R131). -/
def pageOfClass (id : Nat) : Nat := (id - 1) / 8 + 1

/-- Marks the CLASS_PAGE panel whose page covers a class (R131). -/
def State.markClass (s : State) (id : Nat) : State := s.markPanels fun p => p.kind == .classPage (pageOfClass id)

/-- Marks the TICKETS panels (R158). -/
def State.markTickets (s : State) : State := s.markPanels fun p => p.kind == .tickets

/-- Marks the MAGAZINE panels bound to a side (R158). -/
def State.markMagazine (s : State) (side : Side) : State := s.markPanels fun p => p.kind == .magazine side

/-- Marks every visible panel (R165, R173). -/
def State.markAll (s : State) : State := s.markPanels fun _ => true

end Sys2Proof.Machine
end

