-- ==== Sys2Proof/Machine/Strips.lean ====
section
/-! DEFINITION. The Strip Map Store: unit entries, unit state changes, reports from the Feed Controller, creation and
the pull part (R1 to R19). A refused report changes nothing. -/

namespace Sys2Proof.Machine

/-! ## Unit entries -/

/-- Whether a position lies in a strip's grid (R2). -/
def Strip.holds (r : Strip) (column row : Nat) : Bool :=
  decide (1 ≤ column) && decide (column ≤ r.columns) && decide (1 ≤ row) && decide (row ≤ r.rows)

/-- The place of a position in unit order: by column, within a column by row (00, Order of units). -/
def Strip.place (r : Strip) (column row : Nat) : Nat := (column - 1) * r.rows + (row - 1)

/-- The unit entry at a position (R2, R7). -/
def Strip.entry (r : Strip) (column row : Nat) : Option UnitEntry :=
  if r.holds column row then r.units[r.place column row]? else none

/-- Changes the unit entry at a position. -/
def Strip.onEntry (r : Strip) (column row : Nat) (f : UnitEntry → UnitEntry) : Strip :=
  if r.holds column row then { r with units := r.units.modify (r.place column row) f } else r

/-- The unit entry at a position of a strip of the table. -/
def State.unit (s : State) (id column row : Nat) : Option UnitEntry :=
  (s.strip id).bind fun r => r.entry column row

/-- Every position of a grid in unit order. -/
def positions (columns rows : Nat) : List Pos :=
  (List.range columns).flatMap fun c => (List.range rows).map fun r => { column := c + 1, row := r + 1 }

/-- The count of a unit state changed by a function (R8). -/
def Counts.on (c : Counts) (u : UnitState) (f : Nat → Nat) : Counts :=
  match u with
  | .skip => { c with skip := f c.skip }
  | .pending => { c with pending := f c.pending }
  | .claimed _ => { c with claimed := f c.claimed }
  | .bonded => { c with bonded := f c.bonded }
  | .fault => { c with fault := f c.fault }
  | .rework => { c with rework := f c.rework }
  | .reject => { c with reject := f c.reject }

/-- Terminal for window completion (R7). -/
def UnitState.terminal : UnitState → Bool
  | .skip | .bonded | .fault | .rework | .reject => true
  | .pending | .claimed _ => false

/-- The first two and the last of the things the Store does when a change is taken: it writes the state and fault part,
moves one from the old count to the new, sets the STRIP flag for FAULT and REWORK, and announces the change to the
Screen Engine, to the Feed Controller and, for the strip in WINDOW, to the Claim Arbiter (R8, R69). The announcement
to the Quality Unit is `State.changeUnit`'s. -/
def State.writeUnit (s : State) (id column row : Nat) (old new : UnitState) (fault : Option FaultPart) : State :=
  let inWindow := (s.strip id).any fun r => r.location == .window
  let s := s.onStrip id fun r =>
    { r.onEntry column row fun u => { u with state := new, fault } with
      counts := (r.counts.on old (· - 1)).on new (· + 1) }
  let s := if new = .fault ∨ new = .rework then s.raise .strip else s
  let s := (s.markStrip id).dueTrack
  if inWindow then s.dueArbiter else s

/-- The status of a refused unit state change: IN_USE when the unit is CLAIMED, LOCKED otherwise (R8). -/
def refusedChange : UnitState → Status
  | .claimed _ => .inUse
  | _ => .locked

/-! ## Reports of the Feed Controller (R6) -/

/-- On the track: PREHEAT, WINDOW or EXIT. -/
def Location.onTrack : Location → Bool
  | .preheat | .window | .exit => true
  | .output _ | .departed => false

/-- "Order begun": the strip is in motion. -/
def State.reportBegun (s : State) (id : Nat) : State :=
  s.onStrip id fun r => if r.location.onTrack then { r with inMotion := true } else r

/-- "Move abandoned, or cleared BACK": the strip stays and is not in motion. -/
def State.reportAbandoned (s : State) (id : Nat) : State :=
  s.onStrip id fun r => if r.location.onTrack then { r with inMotion := false } else r

/-- "Window entry": the generation is latched and the first columns are counted. -/
def State.reportEntry (s : State) (id generation : Nat) : State :=
  s.onStrip id fun r =>
    if r.location = .preheat then
      { r with location := .window, generation := some generation,
               nextColumn := 1 + min s.cell.width r.columns, inMotion := false }
    else r

/-- "Index of n columns completed". -/
def State.reportIndexed (s : State) (id n : Nat) : State :=
  s.onStrip id fun r =>
    if r.location = .window then { r with nextColumn := r.nextColumn + n, inMotion := false } else r

/-- "Exit". -/
def State.reportExit (s : State) (id : Nat) : State :=
  s.onStrip id fun r => if r.location = .window then { r with location := .exit, inMotion := false } else r

/-- "Output" to a slot. -/
def State.reportOutput (s : State) (id slot : Nat) : State :=
  s.onStrip id fun r => if r.location = .exit then { r with location := .output slot, inMotion := false } else r

/-- "Output magazine removed": a strip in a slot is DEPARTED, with the STRIP flag (R6). -/
def State.reportMagazineGone (s : State) (id : Nat) : State :=
  match s.strip id with
  | some r =>
    match r.location with
    | .output _ => ((s.onStrip id fun q => { q with location := .departed }).raise .strip).markStrip id
    | _ => s
  | none => s

/-- The positions of a strip's units in a state, in unit order. -/
def Strip.unitsIn (r : Strip) (p : UnitState → Bool) : List Pos :=
  (positions r.columns r.rows).filter fun q => (r.entry q.column q.row).any fun u => p u.state

/-- "Removed": the strip is DEPARTED and its PENDING units become REWORK with kind REMOVED; the STRIP flag is set
(R6, R15). -/
def State.reportRemoved (s : State) (id : Nat) : State :=
  match s.strip id with
  | some r =>
    if r.location.onTrack then
      let s := (s.markStrip id).onStrip id fun q => { q with location := .departed, inMotion := false }
      let s := (r.unitsIn (· == .pending)).foldl
        (fun s q => s.writeUnit id q.column q.row .pending .rework (some { wire := 0, kind := .removed })) s
      s.raise .strip
    else s
  | none => s

/-! ## Creation at push-in (R4, R5) -/

/-- Whether a record can be made (R4). With a full table and no usable current program at once R4 gives FULL and NO_SUCH
and no order: FULL is DESIGN CHOICE (log 15). -/
def State.canCreate (s : State) : Status :=
  if Config.maxStrips ≤ s.store.strips.length then .full
  else if s.store.program = 0 ∨ (s.program s.store.program).isNone then .noSuch
  else .ok

/-- The unit map of a new record: the positions of the incoming map are SKIP, the rest PENDING (R5). -/
def newUnits (columns rows : Nat) (skip : List Pos) : List UnitEntry :=
  (positions columns rows).map fun p =>
    { state := if p ∈ skip then .skip else .pending, wiresDone := 0, fault := none, pull := none }

/-- How many entries of a map are in a state. -/
def countState (us : List UnitEntry) (p : UnitState → Bool) : Nat := (us.filter fun u => p u.state).length

/-- The record made from a program and a slot (R4, R5). -/
def newStrip (s : State) (p : Program) (slot : Nat) (skip : List Pos) : Strip :=
  let units := newUnits p.active.columns p.active.rows skip
  { id := s.store.nextStrip, lot := s.store.lot, slot, program := p.id, generation := none,
    location := .preheat, inMotion := false, nextColumn := 1,
    columns := p.active.columns, rows := p.active.rows, units,
    counts := { skip := countState units (· == .skip), pending := countState units (· == .pending),
                claimed := 0, bonded := 0, fault := 0, rework := 0, reject := 0 } }

/-- Creates the record of a strip pushed from a slot, with its incoming map. Answered with OK and the strip's id, or
with the refusal; the STRIP flag is set either way (R4). -/
def State.createStrip (s : State) (slot : Nat) (skip : List Pos) : Status × Option Nat × State :=
  match s.canCreate, s.program s.store.program with
  | .ok, some p =>
    let r := newStrip s p slot skip
    let s := { s with store := { s.store with
      strips := insertBy Strip.id r s.store.strips,
      nextStrip := nextNumber Config.stripNumberAfterLast s.store.nextStrip } }
    (.ok, some r.id, s.raise .strip)
  | st, _ => (st, none, s.raise .strip)

/-! ## Wire ends and the pull part -/

/-- A wire end reported by a head: one more wire done, refused above 600 or for a unit the head does not hold
(R10, R13). -/
def State.reportWireEnd (s : State) (h : HeadId) (id column row : Nat) : Bool × State :=
  match s.unit id column row with
  | some u =>
    if u.state = .claimed h ∧ u.wiresDone < 600 then
      (true, s.onStrip id fun r => r.onEntry column row fun u => { u with wiresDone := u.wiresDone + 1 })
    else (false, s)
  | none => (false, s)

/-- A write of a pull part by the Quality Unit; it marks the strip's panels and leaves the STRIP flag (R16). -/
def State.writePull (s : State) (id column row : Nat) (old new : Option PullPart) : Bool × State :=
  match s.unit id column row with
  | some u =>
    if u.pull = old ∧ (old = none → u.state = .bonded) then
      (true, (s.onStrip id fun r => r.onEntry column row fun u => { u with pull := new }).markStrip id)
    else (false, s)
  | none => (false, s)

end Sys2Proof.Machine
end

