-- ==== Sys2Proof/Machine/Programs.lean ====
section
/-! DEFINITION. The Program Store: copies, wire memory, where a change lands, generations, and what it answers the
other blocks (R44 to R60). -/

namespace Sys2Proof.Machine

/-! ## What the Store answers -/

/-- The classes used of a copy: the class ids its wires name, none twice (R58). -/
def ProgramCopy.classesUsed (c : ProgramCopy) : List Nat := sortedSet (c.wires.map Wire.cls)

/-- Whether a class is used by the active or the staged copy of any program (R58). -/
def State.classUsed (s : State) (id : Nat) : Bool :=
  s.programs.any fun p => (p.active.wires.any fun w => w.cls == id) || (p.staged.any fun c => c.wires.any fun w => w.cls == id)

/-- The copy a view names: the active copy, or the staged copy when there is one (R60). -/
def Program.view (p : Program) : View → Option ProgramCopy
  | .active => some p.active
  | .staged => p.staged

/-- A point placed on the unit at (column, row) (R46). -/
def placePoint (c : ProgramCopy) (column row : Nat) (p : Point) : Point :=
  { x := p.x + (column - 1) * c.pitchX, y := p.y + (row - 1) * c.pitchY, z := p.z }

/-- A copy in bounds: every point of every wire, placed on the unit at (columns, rows), is at most 65,535 (R46). -/
def ProgramCopy.inBounds (c : ProgramCopy) : Bool :=
  c.wires.all fun w => [w.first, w.second].all fun p =>
    let q := placePoint c c.columns c.rows p
    decide (q.x ≤ 65535) && decide (q.y ≤ 65535)

/-! ## Wire memory (R47) -/

/-- The wire records a program uses: its active copy's and its staged copy's. -/
def Program.records (p : Program) : Nat := p.active.wires.length + (p.staged.elim 0 fun c => c.wires.length)

/-- The wire records in use. -/
def recordsUsed (ps : List Program) : Nat := (ps.map Program.records).sum

/-- Wire memory free. -/
def State.memoryFree (s : State) : Nat := Config.wireMemory - recordsUsed s.programs

/-! ## Where a change lands -/

/-- A program is in use while a strip in PREHEAT or WINDOW carries its id (R48). -/
def State.inUse (s : State) (program : Nat) : Bool :=
  s.store.strips.any fun r => r.program == program && (r.location == .preheat || r.location == .window)

/-- The current program, 0 meaning none, or named by a strip record (R3). -/
def State.programNamed (s : State) (program : Nat) : Bool :=
  (program != 0 && s.store.program == program) || s.store.strips.any fun r => r.program == program

/-- The content a change is judged against: the staged copy when there is one, else the active copy, of which a new
staged copy is a full copy (R48, R50). -/
def Program.target (p : Program) : ProgramCopy := p.staged.getD p.active

/-- The program with a changed copy: staged when it is in use or staging already, else the active copy at once, and
then the generation advances by one (R48, R49, R50). -/
def Program.withCopy (p : Program) (inUse : Bool) (c : ProgramCopy) : Program :=
  if inUse || p.staged.isSome then { p with staged := some c }
  else { p with active := c, generation := wrapSucc 65535 p.generation }

/-- A change to a program's copy, already judged by its own rule: refused FULL when it adds records that wire memory
does not cover, else taken (R47, R49, R50). -/
def State.changeCopy (s : State) (p : Program) (c : ProgramCopy) : Status × State :=
  let ps := updateBy Program.id p.id (fun q => q.withCopy (s.inUse p.id) c) s.programs
  if recordsUsed s.programs < recordsUsed ps ∧ Config.wireMemory < recordsUsed ps then (.full, s)
  else (.ok, { s with programs := ps })

/-- The staged copy becomes the active copy and the generation advances (R56). -/
def Program.applyStaged (p : Program) : Program :=
  match p.staged with
  | some c => { p with active := c, staged := none, generation := wrapSucc 65535 p.generation }
  | none => p

/-! ## Requests -/

/-- The copy a PUT of PROGRAM creates. -/
def copyOfBody (b : ProgramBody) : ProgramCopy :=
  { name := b.name, columns := b.columns, rows := b.rows, pitchX := b.pitchX, pitchY := b.pitchY, soak := b.soak,
    plan := b.plan, filter1 := b.filter1, filter2 := b.filter2, filter3 := b.filter3, filter4 := b.filter4, wires := [] }

/-- PUT of PROGRAM; the Quality Unit makes the sampling record and the Feed Controller examines the push-in
(R45, R135, R30). -/
def State.putProgram (s : State) (id : Nat) (b : ProgramBody) : Status × State :=
  if !inRange 1 16 id then (.noSuch, s)
  else if (s.program id).isSome then (.exists_, s)
  else if !copyOk (copyOfBody b) then (.badField, s)
  else
    let p : Program := { id, generation := 0, active := copyOfBody b, staged := none }
    let fresh : Sampling := { program := id, sequence := 0, armed := false, emptySelections := 0, missedSamples := 0 }
    let s := { s with programs := insertBy Program.id p s.programs,
                      quality := { s.quality with sampling := insertBy Sampling.program fresh s.quality.sampling } }
    (.ok, s.dueInput)

/-- A field written to a copy; the fields that are not amended write nothing. -/
def ProgramField.write (c : ProgramCopy) : ProgramField → ProgramCopy
  | .name v => { c with name := v }
  | .columns n => { c with columns := n }
  | .rows n => { c with rows := n }
  | .pitchX n => { c with pitchX := n }
  | .pitchY n => { c with pitchY := n }
  | .soak n => { c with soak := n }
  | .period n => { c with plan := { c.plan with period := n } }
  | .offset n => { c with plan := { c.plan with offset := n } }
  | .run n => { c with plan := { c.plan with run := n } }
  | .filter1 f => { c with filter1 := f }
  | .filter2 f => { c with filter2 := f }
  | .filter3 f => { c with filter3 := f }
  | .filter4 f => { c with filter4 := f }
  | .id | .wireCount | .generation | .stagedFlag | .classesUsed => c

/-- A field that an AMEND of PROGRAM may not name (R54; the id by log 15). -/
def ProgramField.fixed : ProgramField → Bool
  | .id | .wireCount | .generation | .stagedFlag | .classesUsed => true
  | _ => false

/-- The columns or the rows. -/
def ProgramField.grid : ProgramField → Bool
  | .columns _ | .rows _ => true
  | _ => false

/-- AMEND of PROGRAM, its refusals in the order of R54. One that names no field is taken and is a change like any other,
which advances the generation or makes a staged copy: DESIGN CHOICE (log 17). -/
def State.amendProgram (s : State) (id : Nat) (fields : List ProgramField) : Status × State :=
  match s.program id with
  | none => (.noSuch, s)
  | some p =>
    let c := fields.foldl ProgramField.write p.target
    if fields.any ProgramField.fixed then (.locked, s)
    else if !copyOk c || !c.inBounds then (.badField, s)
    else if fields.any ProgramField.grid && (s.inUse id || p.staged.isSome) then (.locked, s)
    else s.changeCopy p c

/-- RETIRE of PROGRAM: its records are freed and its sampling record is discarded (R55, R135). -/
def State.retireProgram (s : State) (id : Nat) : Status × State :=
  if s.programNamed id then (.inUse, s)
  else if (s.program id).isNone then (.noSuch, s)
  else
    (.ok, { s with programs := removeBy Program.id id s.programs,
                   quality := { s.quality with sampling := removeBy Sampling.program id s.quality.sampling } })

/-- PUT of WIRE, its refusals in the order of R51. -/
def State.putWire (s : State) (program index : Nat) (w : Wire) : Status × State :=
  match s.program program with
  | none => (.noSuch, s)
  | some p =>
    let c := p.target
    let n := c.wires.length
    let c' := if index ≤ n then { c with wires := updateNth c.wires index fun _ => w }
              else { c with wires := c.wires ++ [w] }
    if index = 0 ∨ n + 1 < index ∨ 600 < index then (.badField, s)
    else if !wireOk w || !c'.inBounds then (.badField, s)
    else if (s.cls w.cls).isNone then (.noSuch, s)
    else s.changeCopy p c'

/-- A field written to a wire record. -/
def WireField.write (w : Wire) : WireField → Wire
  | .index => w
  | .cls n => { w with cls := n }
  | .firstX n => { w with first := { w.first with x := n } }
  | .firstY n => { w with first := { w.first with y := n } }
  | .firstZ n => { w with first := { w.first with z := n } }
  | .secondX n => { w with second := { w.second with x := n } }
  | .secondY n => { w with second := { w.second with y := n } }
  | .secondZ n => { w with second := { w.second with z := n } }
  | .loop n => { w with loop := n }
  | .firstPower n => { w with firstBond := { w.firstBond with power := n } }
  | .firstForce n => { w with firstBond := { w.firstBond with force := n } }
  | .firstTime n => { w with firstBond := { w.firstBond with time := n } }
  | .secondPower n => { w with secondBond := { w.secondBond with power := n } }
  | .secondForce n => { w with secondBond := { w.secondBond with force := n } }
  | .secondTime n => { w with secondBond := { w.secondBond with time := n } }
  | .tail n => { w with tail := n }
  | .bumpAdd b => { w with bump := b }
  | .bumpRemove => { w with bump := none }

/-- AMEND of WIRE (R52). DESIGN CHOICE (log 15): naming the index is LOCKED and comes first, then BAD_FIELD, then
NO_SUCH for the class, then FULL. One that names no field is taken: DESIGN CHOICE (log 17). -/
def State.amendWire (s : State) (program index : Nat) (fields : List WireField) : Status × State :=
  match s.program program with
  | none => (.noSuch, s)
  | some p =>
    let c := p.target
    match nth c.wires index with
    | none => (.noSuch, s)
    | some w =>
      let w' := fields.foldl WireField.write w
      let c' := { c with wires := updateNth c.wires index fun _ => w' }
      if fields.contains .index then (.locked, s)
      else if fields.contains (.bumpAdd none) || !wireOk w' || !c'.inBounds then (.badField, s)
      else if fields.any fun f => match f with | .cls n => (s.cls n).isNone | _ => false then (.noSuch, s)
      else s.changeCopy p c'

/-- RETIRE of WIRE: only the last wire of the target copy can be retired (R53). -/
def State.retireWire (s : State) (program index : Nat) : Status × State :=
  match s.program program with
  | none => (.noSuch, s)
  | some p =>
    let c := p.target
    let n := c.wires.length
    if index = 0 ∨ n < index then (.noSuch, s)
    else if index < n then (.locked, s)
    else s.changeCopy p { c with wires := c.wires.dropLast }

/-- ACT PROGRAM_APPLY (R57). A program in use with no staged copy is LOCKED: R57 gives no order, DESIGN CHOICE
(log 15). -/
def State.programApply (s : State) (id : Nat) : Status × State :=
  match s.program id with
  | none => (.noSuch, s)
  | some p =>
    if p.staged.isNone then (.locked, s)
    else if s.inUse id then (.inUse, s)
    else (.ok, s.onProgram id Program.applyStaged)

/-- Writes a loop shape entry when it is in range (R59). -/
def State.writeLoop (s : State) (entry : Nat) (l : Option LoopShape) : Status × State :=
  match l with
  | some l => if loopOk l then (.ok, { s with loops := updateNth s.loops entry fun _ => l }) else (.badField, s)
  | none => (.badField, s)

/-- PUT of LOOP (R59); an entry outside 1 to 24 is NO_SUCH before a field is judged: DESIGN CHOICE (log 15). -/
def State.putLoop (s : State) (entry : Nat) (b : LoopBody) : Status × State :=
  match nth s.loops entry with
  | none => (.noSuch, s)
  | some _ =>
    s.writeLoop entry ((profileOfCode b.profile).map fun profile =>
      { height := b.height, reverse := b.reverse, kink := b.kink, profile })

/-- A field written to a loop shape; none for a profile code outside the three. -/
def LoopField.write (l : Option LoopShape) (f : LoopField) : Option LoopShape :=
  l.bind fun l =>
    match f with
    | .height n => some { l with height := n }
    | .reverse n => some { l with reverse := n }
    | .kink n => some { l with kink := n }
    | .profile code => (profileOfCode code).map fun profile => { l with profile }

/-- AMEND of LOOP (R59); NO_SUCH before BAD_FIELD as in PUT: DESIGN CHOICE (log 15). -/
def State.amendLoop (s : State) (entry : Nat) (fields : List LoopField) : Status × State :=
  match nth s.loops entry with
  | none => (.noSuch, s)
  | some l => s.writeLoop entry (fields.foldl LoopField.write (some l))

end Sys2Proof.Machine
end

