-- ==== Sys2Proof/Machine/Quality.lean ====
section
/-! DEFINITION. The Quality Unit: classes, results, notices, sampling, tickets, and its share of every unit state change
(R116 to R151). -/

namespace Sys2Proof.Machine

/-! ## Classes -/

/-- The record of a new class (R119). -/
def newClass (id : Nat) (c : ClassSettings) : WireClass :=
  { id, settings := c, state := .proving, ewma := none, budget := c.provingUnits, resultsSince := 0, lows := 0,
    goods := 0, least := none, greatest := none,
    stats := { bands := List.replicate 8 0, ballLift := 0, neck := 0, span := 0, heel := 0, stitchLift := 0,
               belowMin := 0, results := 0 },
    lifetime := 0 }

/-- What a class change does: the CLASS flag, the arbiter's re-examination, the page's panel (R131). -/
def State.classChanged (s : State) (id : Nat) : State := ((s.raise .cls).dueArbiter).markClass id

/-- The EWMA after a result x under smoothing shift k: 16x when absent, else moved by
floor((16x − E + 2^(k−1)) / 2^k) (R123). -/
def ewmaStep (e : Option Nat) (k x : Nat) : Nat :=
  match e with
  | none => 16 * x
  | some e => ((e : Int) + (16 * (x : Int) - e + 2 ^ (k - 1)) / 2 ^ k).toNat

/-- The force band of a result (R124). -/
def bandOf (c : ClassSettings) (x : Nat) : Nat :=
  if x < c.pullMin then 0 else min 7 (1 + (x - c.pullMin) / c.bandWidth)

/-- The statistics after a result (R124). -/
def ClassStats.after (t : ClassStats) (c : ClassSettings) (x : Nat) (m : PullMode) : ClassStats :=
  let t := { t with bands := t.bands.modify (bandOf c x) count16, results := count16 t.results,
                    belowMin := if x < c.pullMin then count16 t.belowMin else t.belowMin }
  match m with
  | .ballLift => { t with ballLift := count16 t.ballLift }
  | .neck => { t with neck := count16 t.neck }
  | .span => { t with span := count16 t.span }
  | .heel => { t with heel := count16 t.heel }
  | .stitchLift => { t with stitchLift := count16 t.stitchLift }

/-- Step 1 of R122, in every state: statistics, lifetime count and extremes (R124). -/
def WireClass.countResult (c : WireClass) (x : Nat) (m : PullMode) : WireClass :=
  { c with stats := c.stats.after c.settings x m, lifetime := wrapSucc 4294967295 c.lifetime,
           least := some (c.least.elim x (min x)), greatest := some (c.greatest.elim x (max x)) }

/-- Step 2 of R122, outside LAPSED: the EWMA, results since PROVING and the consecutive counts (R123, R125). -/
def WireClass.runResult (c : WireClass) (x : Nat) : WireClass :=
  let low := x < c.settings.pullMin
  { c with ewma := some (ewmaStep c.ewma c.settings.shift x), resultsSince := count16 c.resultsSince,
           lows := if low then count8 c.lows else 0,
           goods := if low then 0 else if c.state = .watch then count8 c.goods else c.goods }

/-- E at or above 16 times a level (R126 to R128). -/
def WireClass.atLeast (c : WireClass) (level : Nat) : Bool := c.ewma.any fun e => decide (16 * level ≤ e)

/-- Enters WATCH with consecutive good 0 (R126, R127, R129). -/
def WireClass.toWatch (c : WireClass) : WireClass := { c with state := .watch, goods := 0 }

/-- Step 3 of R122: the examination under the rule of the state held, R126, R127 or R128; none in LAPSED (R129). -/
def WireClass.examine (c : WireClass) (x : Nat) : WireClass :=
  match c.state with
  | .proving =>
    if x < c.settings.pullMin then { c with state := .lapsed .lowResult }
    else if c.settings.resultsRequired ≤ c.resultsSince then
      if c.atLeast c.settings.watchLevel then { c with state := .qualified } else c.toWatch
    else c
  | .qualified =>
    if x < c.settings.pullMin ∨ ¬ c.atLeast c.settings.watchLevel then c.toWatch else c
  | .watch =>
    if 2 ≤ c.lows then { c with state := .lapsed .repeatLow }
    else if ¬ c.atLeast c.settings.pullMin then { c with state := .lapsed .lowAverage }
    else if c.settings.recovery ≤ c.goods ∧ c.atLeast c.settings.watchLevel then { c with state := .qualified }
    else c
  | .lapsed _ => c

/-- A class after an accepted result of force x and a failure mode (R122). -/
def WireClass.takeResult (c : WireClass) (x : Nat) (m : PullMode) : WireClass :=
  let c := c.countResult x m
  match c.state with
  | .lapsed _ => c
  | _ => (c.runResult x).examine x

/-- A class after an overdue notice (R129). -/
def WireClass.takeNotice (c : WireClass) : WireClass :=
  match c.state with
  | .proving | .watch => { c with state := .lapsed .overdue }
  | .qualified => c.toWatch
  | .lapsed _ => c

/-- A class after REQUALIFY (R130). -/
def WireClass.requalified (c : WireClass) : WireClass :=
  { c with state := .proving, budget := c.settings.provingUnits, ewma := none, least := none, greatest := none,
           resultsSince := 0, lows := 0, goods := 0 }

/-- Hands an accepted result to its class; step 4 of R122 announces a change of state, and a change of E alone marks
the page. -/
def State.classResult (s : State) (id x : Nat) (m : PullMode) : State :=
  match s.cls id with
  | none => s
  | some c =>
    let c' := c.takeResult x m
    let s := s.onClass id fun _ => c'
    if c'.state ≠ c.state then s.classChanged id else if c'.ewma ≠ c.ewma then s.markClass id else s

/-- Gives a class an overdue notice (R129, R131). -/
def State.classNotice (s : State) (id : Nat) : State :=
  match s.cls id with
  | none => s
  | some c =>
    let c' := c.takeNotice
    let s := s.onClass id fun _ => c'
    if c'.state ≠ c.state then s.classChanged id else s

/-- REQUALIFY: announced whether or not the state was PROVING already (R130). -/
def State.requalify (s : State) (id : Nat) : Status × State :=
  if (s.cls id).isNone then (.noSuch, s) else (.ok, (s.onClass id WireClass.requalified).classChanged id)

/-! ## Class requests -/

/-- The settings of a body; none for a miss policy code outside the two. -/
def settingsOf (b : ClassBody) : Option ClassSettings :=
  (missPolicyOfCode b.missPolicy).map fun missPolicy =>
    { pMin := b.pMin, pMax := b.pMax, fMin := b.fMin, fMax := b.fMax, trim := b.trim, trimStep := b.trimStep,
      missPolicy, pullMin := b.pullMin, watchLevel := b.watchLevel, shift := b.shift, bandWidth := b.bandWidth,
      provingUnits := b.provingUnits, resultsRequired := b.resultsRequired, recovery := b.recovery }

/-- PUT of CLASS, its refusals in the order of R119. -/
def State.putClass (s : State) (id : Nat) (b : ClassBody) : Status × State :=
  if !inRange 1 32 id then (.noSuch, s)
  else if (s.cls id).isSome then (.exists_, s)
  else
    match settingsOf b with
    | none => (.badField, s)
    | some c =>
      if !classOk c then (.badField, s)
      else
        let s := { s with quality := { s.quality with
          classes := insertBy WireClass.id (newClass id c) s.quality.classes } }
        (.ok, s.classChanged id)

/-- A setting written; none for a miss policy code outside the two. -/
def ClassField.write (c : Option ClassSettings) (f : ClassField) : Option ClassSettings :=
  c.bind fun c =>
    match f with
    | .pMin n => some { c with pMin := n }
    | .pMax n => some { c with pMax := n }
    | .fMin n => some { c with fMin := n }
    | .fMax n => some { c with fMax := n }
    | .trim n => some { c with trim := n }
    | .trimStep n => some { c with trimStep := n }
    | .missPolicy code => (missPolicyOfCode code).map fun missPolicy => { c with missPolicy }
    | .pullMin n => some { c with pullMin := n }
    | .watchLevel n => some { c with watchLevel := n }
    | .shift n => some { c with shift := n }
    | .bandWidth n => some { c with bandWidth := n }
    | .provingUnits n => some { c with provingUnits := n }
    | .resultsRequired n => some { c with resultsRequired := n }
    | .recovery n => some { c with recovery := n }
    | .qualification => some c

/-- Names the proving units. -/
def ClassField.namesProving : ClassField → Bool
  | .provingUnits _ => true
  | _ => false

/-- AMEND of CLASS; proving units set below the budget lower the budget (R120). One that names a qualification field and
also gives a setting out of range is LOCKED, and one of a class not in the table is NO_SUCH whatever it names: R120
gives no order, DESIGN CHOICE (log 15). -/
def State.amendClass (s : State) (id : Nat) (fields : List ClassField) : Status × State :=
  match s.cls id with
  | none => (.noSuch, s)
  | some c =>
    if fields.contains .qualification then (.locked, s)
    else
      match fields.foldl ClassField.write (some c.settings) with
      | none => (.badField, s)
      | some t =>
        if !classOk t then (.badField, s)
        else
          (.ok, s.onClass id fun c =>
            { c with settings := t,
                     budget := if fields.any ClassField.namesProving then min c.budget t.provingUnits else c.budget })

/-- A pending ticket holds an unreported wire of the class (R121). -/
def Ticket.awaits (t : Ticket) (cls : Nat) : Bool := t.wires.any fun w => w.cls == cls && !w.reported

/-- RETIRE of CLASS (R121). -/
def State.retireClass (s : State) (id : Nat) : Status × State :=
  if (s.cls id).isNone then (.noSuch, s)
  else if s.classUsed id || s.quality.tickets.any fun t => t.awaits id then (.inUse, s)
  else
    let s := { s with quality := { s.quality with classes := removeBy WireClass.id id s.quality.classes } }
    (.ok, (s.raise .cls).markClass id)

/-! ## Proving budget -/

/-- One proving budget given back to a class that is still PROVING, not above its proving units; a rise from 0 is
announced to the arbiter (R72, R132). -/
def State.returnBudget (s : State) (id : Nat) : State :=
  match s.cls id with
  | some c =>
    if c.state = .proving then
      if c.budget < c.settings.provingUnits then
        let s := s.onClass id fun c => { c with budget := c.budget + 1 }
        if c.budget = 0 then s.dueArbiter else s
      else s
    else s
  | none => s

/-! ## Sampling (R135 to R141) -/

/-- The effective period: shortened while a class used is WATCH (R137). -/
def effectivePeriod (watch : Bool) (period : Nat) : Nat := if watch then max 1 (period / 2) else period

/-- The plan test for a sequence counter (R137). -/
def planTest (p : Plan) (watch : Bool) (sequence : Nat) : Bool :=
  let period := effectivePeriod watch p.period
  decide (((sequence : Int) - p.offset) % period < min p.run period)

/-- A wire index agrees with a filter in every place where the mask holds a one (R140). -/
def filterAgrees (f : Filter) (index : Nat) : Bool := (index &&& f.mask) == (f.value &&& f.mask)

/-- The wires of a copy with their indices, from 1 up. -/
def ProgramCopy.indexed (c : ProgramCopy) : List (Nat × Wire) := c.wires.zipIdx.map fun p => (p.2 + 1, p.1)

/-- Whether the filters of a copy select a wire index (R140). -/
def ProgramCopy.selects (c : ProgramCopy) (index : Nat) : Bool :=
  let enabled := [c.filter1, c.filter2, c.filter3, c.filter4].filter Filter.enabled
  enabled.isEmpty || enabled.any fun f => filterAgrees f index

/-- The wires chosen for a sample: those of the admitted classes for PROVING, those the filters select otherwise, the
first 64 in index order (R139, R140). -/
def selection (c : ProgramCopy) (kind : SampleKind) (admitted : List Nat) : List TicketWire :=
  let chosen := c.indexed.filter fun p =>
    match kind with
    | .proving => admitted.contains p.2.cls
    | .oneShot | .plan => c.selects p.1
  (chosen.take Config.maxTicketWires).map fun p => { wire := p.1, cls := p.2.cls, reported := false }

/-- The kind of sample a decision takes, by the first case that applies (R136). -/
def sampleKind (s : State) (p : Program) (admitted : List Nat) : Option SampleKind :=
  let record := s.sampling p.id
  let watch := p.active.classesUsed.any fun id => (s.cls id).any fun c => c.state == .watch
  if !admitted.isEmpty then some .proving
  else if record.any Sampling.armed then some .oneShot
  else if record.any fun r => planTest p.active.plan watch r.sequence then some .plan
  else none

/-- Issues a ticket: it joins the list as the Store takes the PENDING pull part; the TICKET flag is set (R141). -/
def State.issueTicket (s : State) (t : Ticket) : State :=
  let (taken, s) := s.writePull t.strip t.column t.row none (some (.ticketed .pending t.number))
  if taken then
    let s := { s with quality := { s.quality with
      tickets := s.quality.tickets ++ [t],
      nextTicket := nextNumber Config.ticketNumberAfterLast s.quality.nextTicket } }
    (s.raise .ticket).markTickets
  else s

/-- The sampling decision on a unit that a head has reported BONDED (R136, R141). -/
def State.sampleUnit (s : State) (h : HeadId) (r : Strip) (column row : Nat) : State :=
  match s.program r.program with
  | none => s
  | some p =>
    let admitted := (s.admission h).getD []
    let kind := sampleKind s p admitted
    let s := if kind = some .oneShot then s.onSampling p.id fun q => { q with armed := false } else s
    let s :=
      match kind with
      | none => s
      | some kind =>
        let wires := selection p.active kind admitted
        if wires.isEmpty then
          s.onSampling p.id fun q => { q with emptySelections := count16 q.emptySelections }
        else if Config.maxTickets ≤ s.quality.tickets.length then
          (s.writePull r.id column row none (some .missed)).2.onSampling p.id fun q =>
            { q with missedSamples := count16 q.missedSamples }
        else
          s.issueTicket
            { number := s.quality.nextTicket, strip := r.id, column, row, program := r.program,
              generation := r.generation.getD 0, kind, wires, serial := (s.head h).capillary.serial,
              count := (s.head h).capillary.count, head := h, remaining := s.cell.dueCount }
    s.onSampling p.id fun q => { q with sequence := wrapSucc 4294967295 q.sequence }

/-- The Quality Unit's share of a change of a unit that head h held: a sampling decision when it is BONDED, else
budget given back to each class of the admission record; the record is then discarded (R72, R136). -/
def State.endAdmission (s : State) (h : HeadId) (id column row : Nat) (new : UnitState) : State :=
  let s :=
    if new = .bonded then
      match s.strip id with
      | some r => s.sampleUnit h r column row
      | none => s
    else ((s.admission h).getD []).foldl State.returnBudget s
  s.setAdmission h none

/-- A unit state change taken by the Store, with the announcement to every block (R8). -/
def State.changeUnit (s : State) (id column row : Nat) (old new : UnitState) (fault : Option FaultPart) : State :=
  let s := s.writeUnit id column row old new fault
  match old with
  | .claimed h => s.endAdmission h id column row new
  | _ => s

/-! ## Reports of the heads (R10 to R13) -/

/-- The unit is CLAIMED by this head (R13). -/
def State.holdsUnit (s : State) (h : HeadId) (id column row : Nat) : Bool :=
  (s.unit id column row).any fun u => u.state == .claimed h

/-- "Unit bonded" (R10). -/
def State.reportBonded (s : State) (h : HeadId) (id column row : Nat) : Bool × State :=
  if s.holdsUnit h id column row then (true, s.changeUnit id column row (.claimed h) .bonded none) else (false, s)

/-- A miss (R11). -/
def State.reportMiss (s : State) (h : HeadId) (id column row wire : Nat) (kind : FaultKind) : Bool × State :=
  if s.holdsUnit h id column row then
    (true, s.changeUnit id column row (.claimed h) .fault (some { wire, kind }))
  else (false, s)

/-- The end of a claim: PENDING when no wire is done and the touchdown flag is clear, REWORK with the fault part
otherwise (R12). -/
def State.reportClaimEnd (s : State) (h : HeadId) (id column row wire : Nat) (kind : FaultKind) (touched : Bool) :
    Bool × State :=
  match s.unit id column row with
  | some u =>
    if u.state = .claimed h then
      if u.wiresDone = 0 ∧ touched = false then
        (true, s.changeUnit id column row (.claimed h) .pending none)
      else (true, s.changeUnit id column row (.claimed h) .rework (some { wire, kind }))
    else (false, s)
  | none => (false, s)

/-! ## Rejecting units (R14) -/

/-- REJECT_UNIT (R14, R2, R181). An absent strip is NO_SUCH whatever the position: no rule gives the order, DESIGN
CHOICE (log 15). -/
def State.rejectUnit (s : State) (id column row : Nat) : Status × State :=
  match s.strip id with
  | none => (.noSuch, s)
  | some r =>
    match r.entry column row with
    | none => (.badField, s)
    | some u =>
      if u.state = .pending then (.ok, s.changeUnit id column row .pending .reject none)
      else (refusedChange u.state, s)

/-- A column among the window columns in force (R61). -/
def State.inForce (s : State) (column : Nat) : Bool :=
  match s.arbiter.window with
  | .opened a b => inRange a b column
  | _ => false

/-- The two conditions under which a REJECT unit is brought back (R14). -/
def State.mayUnreject (s : State) (r : Strip) (column : Nat) : Bool :=
  match r.location with
  | .preheat => true
  | .window => !r.inMotion && (s.inForce column || decide (r.nextColumn ≤ column))
  | _ => false

/-- UNREJECT_UNIT (R14, R2, R181); NO_SUCH before BAD_FIELD as in REJECT_UNIT: DESIGN CHOICE (log 15). -/
def State.unrejectUnit (s : State) (id column row : Nat) : Status × State :=
  match s.strip id with
  | none => (.noSuch, s)
  | some r =>
    match r.entry column row with
    | none => (.badField, s)
    | some u =>
      if u.state = .reject ∧ s.mayUnreject r column then (.ok, s.changeUnit id column row .reject .pending none)
      else (refusedChange u.state, s)

/-! ## Tickets (R142 to R149) -/

/-- Removes a ticket from the list. -/
def State.dropTicket (s : State) (n : Nat) : State :=
  { s with quality := { s.quality with tickets := removeBy Ticket.number n s.quality.tickets } }

/-- The Store's write as a ticket leaves the list (R16, R147 to R149). -/
def State.closeTicket (s : State) (t : Ticket) (status : PullStatus) : State :=
  let s := (s.writePull t.strip t.column t.row (some (.ticketed .pending t.number))
    (some (.ticketed status t.number))).2
  (s.dropTicket t.number).markTickets

/-- The verdict on a result (R146, R187). -/
inductive Verdict
  | accepted (overScale : Bool) | late | noSuchWire | duplicate | badField | badFrame
deriving DecidableEq, Repr

/-- The host status of a verdict (R146). -/
def Verdict.status : Verdict → Status
  | .accepted _ => .ok
  | .late => .late
  | .noSuchWire => .noSuch
  | .duplicate => .duplicate
  | .badField => .badField
  | .badFrame => .badFrame

/-- Raises one of the six result counts (R151). -/
def State.onResults (s : State) (f : ResultCounts → ResultCounts) : State :=
  { s with quality := { s.quality with counts := f s.quality.counts } }

/-- The effect of an accepted result, in the order of R147. -/
def State.acceptResult (s : State) (t : Ticket) (w : TicketWire) (x : Nat) (m : PullMode) : State :=
  let wires := t.wires.map fun e => if e.wire = w.wire then { e with reported := true } else e
  let s := { s with quality := { s.quality with
    tickets := updateBy Ticket.number t.number (fun t => { t with wires }) s.quality.tickets } }
  let s := s.classResult w.cls x m
  if wires.all TicketWire.reported then (s.closeTicket t .done).raise .ticket else s.markTickets

/-- Judges a result by the first case of R146 that applies, and takes it when it is accepted. A force above 2,000 is
clamped and marked over-scale. -/
def State.judgeResult (s : State) (ticket wire force mode : Nat) : Verdict × State :=
  match pullModeOfCode mode with
  | none => (.badField, s.onResults fun c => { c with badFields := count16 c.badFields })
  | some m =>
    match s.ticket ticket with
    | none => (.late, s.onResults fun c => { c with late := count16 c.late })
    | some t =>
      match t.wires.find? fun w => w.wire == wire with
      | none => (.noSuchWire, s.onResults fun c => { c with noSuchWire := count16 c.noSuchWire })
      | some w =>
        if w.reported then (.duplicate, s.onResults fun c => { c with duplicates := count16 c.duplicates })
        else
          let overScale := decide (2000 < force)
          let s := if overScale then s.onResults fun c => { c with overScale := count16 c.overScale } else s
          (.accepted overScale, s.acceptResult t w (min force 2000) m)

/-- A ticket that has run out of strips: the pull part is EXPIRED, each class with an unreported wire on it gets one
notice, and the ticket leaves the list (R148). -/
def State.expireTicket (s : State) (t : Ticket) : State :=
  let overdue := sortedSet ((t.wires.filter fun w => !w.reported).map TicketWire.cls)
  let s := s.closeTicket t .expired
  (overdue.foldl State.classNotice s).raise .ticket

/-- The window-left signal: every pending ticket is lowered by one, and those that reach 0 expire in order of issue
(R35, R148). -/
def State.windowLeft (s : State) : State :=
  let aged := s.quality.tickets.map fun t => { t with remaining := t.remaining - 1 }
  let s := { s with quality := { s.quality with tickets := aged } }
  (aged.filter fun t => t.remaining == 0).foldl State.expireTicket s

/-- WITHDRAW (R149). -/
def State.withdraw (s : State) (n : Nat) : Status × State :=
  match s.ticket n with
  | none => (.noSuch, s)
  | some t => (.ok, s.closeTicket t .withdrawn)

/-- SAMPLE_NEXT (R138). -/
def State.sampleNext (s : State) (id : Nat) : Status × State :=
  if (s.program id).isNone then (.noSuch, s) else (.ok, s.onSampling id fun q => { q with armed := true })

/-- LOT_START's share of the Store and of the Quality Unit (R3, R150). -/
def State.lotStart (s : State) (lot : Nat) : State :=
  { s with store := { s.store with lot },
           quality := { s.quality with
             sampling := s.quality.sampling.map fun q => { q with sequence := 0, armed := false } } }

/-- RETIRE of STRIP (R18); a record that leaves a full table is reported free to the Feed Controller, which releases
HELD(TABLE_FULL) and examines the push-in (R1, R30). -/
def State.retireStrip (s : State) (id : Nat) : Status × State :=
  match s.strip id with
  | none => (.noSuch, s)
  | some r =>
    if r.location ≠ .departed ∨ s.quality.tickets.any fun t => t.strip == id then (.inUse, s)
    else
      let full := Config.maxStrips ≤ s.store.strips.length
      let s := (s.markStrip id)
      let s := { s with store := { s.store with strips := removeBy Strip.id id s.store.strips } }
      if full then
        let s := if s.feed.input.state = .held .tableFull then s.setGroup .input { s.feed.input with state := .idle } else s
        (.ok, s.dueInput)
      else (.ok, s)

end Sys2Proof.Machine
end

