-- ==== Sys2Proof/Machine/Settings.lean ====
section
/-! DEFINITION. The Bond Settings Unit: the heater reading, the gate and the computation of power, force and time
(R104 to R115). -/

namespace Sys2Proof.Machine

/-! ## The gate -/

/-- The gate that the reading record and the settings Ts and Hw give, by the first row of R107 that applies. -/
def gateOf (h : Heater) (setPoint window : Nat) : Gate :=
  match h.last with
  | none => .fail .absent
  | some r =>
    if !h.fresh then .fail .stale
    else
      match r with
      | .sensorFault => .fail .sensorFault
      | .temperature _ =>
        let t := h.lastTemperature.getD 0
        if t + window < setPoint then .fail .low
        else if setPoint + window < t then .fail .high
        else .pass

/-- The gate passes. -/
def State.gatePasses (s : State) : Bool := s.heater.gate == .pass

/-- Evaluates the gate; the cause is updated at every evaluation (R107). -/
def State.evaluateGate (s : State) : State :=
  { s with heater := { s.heater with gate := gateOf s.heater s.cell.setPoint s.cell.window } }

/-! ## The reading -/

/-- The reading record after a frame of the heater port, the gate not yet evaluated (R105). -/
def Heater.receive (h : Heater) : HeaterFrame → Heater
  | .unreadable => { h with discarded := count16 h.discarded }
  | .temperature v =>
    if v ≤ 1000 then
      { h with last := some (.temperature v), lastTemperature := some v, age := some 0, fresh := true,
               freshTimer := some Config.freshnessTime, readings := count16 h.readings }
    else
      { h with last := some .sensorFault, age := some 0, fresh := true, freshTimer := some Config.freshnessTime,
               readings := count16 h.readings, sensorFaults := count16 h.sensorFaults }
  | .sensorFault =>
    { h with last := some .sensorFault, age := some 0, fresh := true, freshTimer := some Config.freshnessTime,
             readings := count16 h.readings, sensorFaults := count16 h.sensorFaults }

/-- The reading record after the freshness timer expires (R106). -/
def Heater.expire (h : Heater) : Heater :=
  { h with fresh := false, freshTimer := none, staleExpiries := count16 h.staleExpiries }

/-! ## The computation -/

/-- The wear steps w (R110). -/
def wearSteps (c : Capillary) : Nat := min (c.count / c.interval) c.wearCap

/-- The deviation d: Ts − Th, clamped to −Hw to +Hw while the gate fails, 0 when no temperature is held (R111). -/
def deviation (h : Heater) (setPoint window : Nat) : Int :=
  match h.lastTemperature with
  | none => 0
  | some t =>
    let d : Int := (setPoint : Int) - t
    if h.gate = .pass then d else max (-(window : Int)) (min window d)

/-- The temperature power P2 = floor((P1 × (4,096 + g × d) + 2,048) / 4,096) (R112). -/
def temperaturePower (p1 gain : Nat) (d : Int) : Nat :=
  (((p1 : Int) * (4096 + (gain : Int) * d) + 2048) / 4096).toNat

/-- A value brought into a window (R113). -/
def clampTo (lo hi : Int) (v : Int) : Int := if v < lo then lo else if hi < v then hi else v

/-- The computation of one bond order from one consistent set of values (R109 to R113). -/
def compute (kind : BondKind) (wire : Nat) (c : Claim) (set : BondSet) (cap : Capillary) (cls : ClassSettings)
    (h : Heater) (cell : Cell) : Computation :=
  let w := wearSteps cap
  let d := deviation h cell.setPoint cell.window
  let p1 := set.power + w * cap.kP
  let f1 := set.force + w * cap.kF
  let p2 := temperaturePower p1 cell.gain d
  let p3 : Int := (p2 : Int) + cls.trim * cls.trimStep
  let power := (clampTo cls.pMin cls.pMax p3).toNat
  let force := (clampTo cls.fMin cls.fMax f1).toNat
  { kind, wire, strip := c.strip, column := c.column, row := c.row, w, d, p1, p2, p3, power, f1, force,
    time := set.time,
    clamp := p3 < cls.pMin || (cls.pMax : Int) < p3 || decide (f1 < cls.fMin) || decide (cls.fMax < f1),
    excursion := !(h.gate == .pass) }

/-- Answers a head's request for settings: the last computation record is replaced, an excursion is counted, and the
head counts a clamp (R109, R111, R113). -/
def State.settingsFor (s : State) (h : HeadId) (k : Computation) : State :=
  let s := { s with heater :=
    match h with
    | .one => { s.heater with computation1 := some k }
    | .two => { s.heater with computation2 := some k } }
  let s := if k.excursion then { s with heater := { s.heater with excursions := count16 s.heater.excursions } } else s
  if k.clamp then s.onStats h fun t => { t with clamped := count16 t.clamped } else s

end Sys2Proof.Machine
end

