-- ==== Sys2Proof/Machine/Heads.lean ====
section
/-! DEFINITION. The Head Controllers: states, the steps of a wire, misses, stopping, and the host's and operator's
actions on a head (R78 to R103). -/

namespace Sys2Proof.Machine

/-! ## States -/

/-- An entry that sets the head's attention flag: HELD, FAULTED, STALLED with reason CLASS or HEATER (R79). -/
def HeadState.attends : HeadState → Bool
  | .held _ | .faulted _ | .stalled .cls | .stalled .heater => true
  | _ => false

/-- A wire is in progress: BONDING or HOLDING. -/
def HeadState.working : HeadState → Bool
  | .bonding | .holding => true
  | _ => false

/-- Takes a head into a state: its panels are marked and its flag set where R79 says so; a head that is no longer
bonding has no step and no step timer (log 12). -/
def State.enter (s : State) (h : HeadId) (st : HeadState) : State :=
  let s := s.onHead h fun r =>
    if st.working then { r with state := st } else { r with state := st, step := none, stepTimer := none }
  let s := s.markHead h
  if st.attends then s.raise (.ofHead h) else s

/-- A head enters IDLE with no claim, and its request is made (R64). -/
def State.goIdle (s : State) (h : HeadId) : State := (s.enter h .idle).dueArbiter

/-- Clears the claim context and the resume point. -/
def State.clearClaim (s : State) (h : HeadId) : State :=
  (s.onHead h fun r => { r with claim := none, resume := none }).markHead h

/-- Counts a stray event (R97). -/
def State.stray (s : State) (h : HeadId) : State := s.onStats h fun t => { t with strays := count16 t.strays }

/-! ## What the other blocks answer about the claimed unit -/

/-- The default of a lookup that a rule makes impossible to fail (log 19). -/
def blankCopy : ProgramCopy :=
  { name := [], columns := 1, rows := 1, pitchX := 0, pitchY := 0, soak := 0,
    plan := { period := 1, offset := 0, run := 1 },
    filter1 := { value := 0, mask := 0, enabled := false }, filter2 := { value := 0, mask := 0, enabled := false },
    filter3 := { value := 0, mask := 0, enabled := false }, filter4 := { value := 0, mask := 0, enabled := false },
    wires := [] }

/-- The default of a wire lookup (log 19). -/
def blankWire : Wire :=
  { cls := 0, first := { x := 0, y := 0, z := 0 }, second := { x := 0, y := 0, z := 0 }, loop := 0,
    firstBond := { power := 0, force := 5, time := 1 }, secondBond := { power := 0, force := 5, time := 1 },
    tail := 0, bump := none }

/-- The default of a class lookup (log 19). -/
def blankSettings : ClassSettings :=
  { pMin := 0, pMax := 1000, fMin := 5, fMax := 250, trim := 0, trimStep := 1, missPolicy := .stop, pullMin := 0,
    watchLevel := 0, shift := 1, bandWidth := 1, provingUnits := 1, resultsRequired := 1, recovery := 1 }

/-- The active copy of a strip's program (R58). -/
def State.copyOfStrip (s : State) (strip : Nat) : ProgramCopy :=
  match (s.strip strip).bind fun r => s.program r.program with
  | some p => p.active
  | none => blankCopy

/-- The wire a claim names (R58). -/
def State.claimWire (s : State) (c : Claim) : Wire := (nth (s.copyOfStrip c.strip).wires c.wire).getD blankWire

/-- The settings of a class as they stand (R109). -/
def State.classSettings (s : State) (id : Nat) : ClassSettings := ((s.cls id).map WireClass.settings).getD blankSettings

/-- The class is LAPSED (R76, R82). -/
def State.classLapsed (s : State) (id : Nat) : Bool :=
  (s.cls id).any fun c => match c.state with | .lapsed _ => true | _ => false

/-! ## Steps -/

/-- Puts a head in a step with its timer started (R84). -/
def State.inStep (s : State) (h : HeadId) (st : Step) (ms : Nat) : State :=
  s.onHead h fun r => { r with step := some st, stepTimer := some ms }

/-- Sends SPARK with the spark settings as they stand (R80). -/
def State.sendSpark (s : State) (h : HeadId) : State :=
  s.sendHead h (.spark (s.head h).sparkCurrent (s.head h).sparkTime)

/-- Enters a spark step with the try at 1 (R86). -/
def State.enterSpark (s : State) (h : HeadId) (st : Step) : State :=
  ((s.onHead h fun r => { r with sparkTry := 1 }).sendSpark h).inStep h st (s.head h).sparkTimeout

/-- Enters a bond step: the settings are computed and sent at this moment (R84, R109). -/
def State.enterBond (s : State) (h : HeadId) (c : Claim) (kind : BondKind) : State :=
  let w := s.claimWire c
  let set :=
    match kind with
    | .first => w.firstBond
    | .second => w.secondBond
    | .bump => w.bump.getD w.secondBond
  let k := compute kind c.wire c set (s.head h).capillary (s.classSettings w.cls) s.heater s.cell
  let s := s.settingsFor h k
  match kind with
  | .first => (s.sendHead h (.firstBond k.power k.force k.time)).inStep h (.firstBond .contact) (s.head h).bondTimeout
  | .second => (s.sendHead h (.secondBond k.power k.force k.time)).inStep h (.secondBond .contact) (s.head h).bondTimeout
  | .bump => (s.sendHead h (.bump k.power k.force k.time)).inStep h (.bump .contact) (s.head h).bondTimeout

/-- A point of the claimed wire placed on the claimed unit (R46, R80). -/
def State.claimPoint (s : State) (c : Claim) (p : Point) : Point :=
  placePoint (s.copyOfStrip c.strip) c.column c.row p

/-- Enters SEEK_FIRST or BUMP_SEEK: POSITION to a point (R84). -/
def State.enterSeek (s : State) (h : HeadId) (st : Step) (p : Point) : State :=
  (s.sendHead h (.position p)).inStep h st (s.head h).positionTimeout

/-- Enters LOOPING with the loop shape entry as it stands (R59, R80). -/
def State.enterLooping (s : State) (h : HeadId) (c : Claim) : State :=
  let w := s.claimWire c
  (s.sendHead h (.loop ((nth s.loops w.loop).getD .reset) (s.claimPoint c w.second))).inStep h .looping
    (s.head h).positionTimeout

/-- Enters TAIL or BUMP_TAIL (R84). -/
def State.enterTail (s : State) (h : HeadId) (c : Claim) (st : Step) : State :=
  (s.sendHead h (.tail (s.claimWire c).tail)).inStep h st (s.head h).bondTimeout

/-! ## Beginning a wire (R81, R82) -/

/-- The touchdowns needed from a resume point (R82). -/
def touchdownsNeeded (w : Wire) : Entry → Nat
  | .start => if w.bump.isSome then 3 else 2
  | .bump => 1

/-- The capillary check fails: N plus the touchdowns needed exceeds L (R82). -/
def Capillary.spent (c : Capillary) (needed : Nat) : Bool := decide (c.life < c.count + needed)

/-- Begins the wire at the resume point after the three checks, in order (R82). -/
def State.beginWire (s : State) (h : HeadId) : State :=
  match (s.head h).claim, (s.head h).resume with
  | some c, some p =>
    let c := { c with wire := p.wire }
    let w := s.claimWire c
    if (s.head h).capillary.spent (touchdownsNeeded w p.entry) then s.enter h (.held .capillary)
    else if p.entry = .start ∧ s.classLapsed w.cls then s.enter h (.held .classLapsed)
    else if !s.gatePasses then s.enter h (.stalled .heater)
    else
      let s := if (s.head h).state = .bonding then s else s.enter h .bonding
      match p.entry with
      | .start =>
        let s := s.onHead h fun r => { r with claim := some { c with touched := false } }
        if (s.head h).ball then s.enterSeek h .seekFirst (s.claimPoint c w.first) else s.enterSpark h .openSpark
      | .bump => s.enterSpark h .bumpSpark
  | _, _ => s

/-! ## Ends of a wire and of a claim -/

/-- Reports the unit bonded and gives up the claim (R87, R81). A report that the Store refuses is a stray event, and the
head goes on as if it had been taken: units bonded, fault run, claim (R93, log 38). -/
def State.bondUnit (s : State) (h : HeadId) (c : Claim) : State :=
  let (taken, s) := s.reportBonded h c.strip c.column c.row
  let s := if taken then s else s.stray h
  let s := s.onStats h fun t => { t with unitsBonded := count16 t.unitsBonded }
  (s.onHead h fun r => { r with faultRun := 0 }).clearClaim h

/-- The end of a wire up to the head's next state: true when the claim is kept for the next wire (R87). A wire-end
report that the Store refuses ends the claim, on the last wire too, and then R87's units bonded and fault run are left
as they are: DESIGN CHOICE (log 38), since R93 does not say whether they follow, and no run reaches it. -/
def State.endWire (s : State) (h : HeadId) (c : Claim) : Bool × State :=
  let s := s.onStats h fun t => { t with wiresBonded := count16 t.wiresBonded }
  let (taken, s) := s.reportWireEnd h c.strip c.column c.row
  let s := s.markHead h
  if !taken then (false, (s.stray h).clearClaim h)
  else if c.wire < c.wireCount then
    (true, s.onHead h fun r =>
      { r with claim := some { c with wire := c.wire + 1, touched := false },
               resume := some { wire := c.wire + 1, entry := .start } })
  else (false, s.bondUnit h c)

/-- The head's next state after a wire's end (R87). -/
def State.afterWire (s : State) (h : HeadId) (kept : Bool) : State :=
  if (s.head h).state = .holding then s.enter h (.held .request)
  else if kept then s.beginWire h
  else s.goIdle h

/-- A head takes its grant: the claim context, the resume point at wire 1, and its first wire; a unit of no wires is
bonded at once (R71, R78, R81). -/
def State.beginUnit (s : State) (h : HeadId) (c : Claim) : State :=
  let s := s.onHead h fun r => { r with claim := some c, resume := some { wire := 1, entry := .start } }
  let s := s.enter h .bonding
  if c.wireCount = 0 then (s.bondUnit h c).goIdle h else s.beginWire h

/-- Reports the end of a claim unbonded and gives it up (R93). -/
def State.endClaim (s : State) (h : HeadId) (c : Claim) (kind : FaultKind) (wire : Nat) : State :=
  let (taken, s) := s.reportClaimEnd h c.strip c.column c.row wire kind c.touched
  (if taken then s else s.stray h).clearClaim h

/-- A miss (R91, R92). -/
def State.miss (s : State) (h : HeadId) (c : Claim) (kind : FaultKind) : State :=
  let holding := (s.head h).state = .holding
  let policy := (s.classSettings (s.claimWire c).cls).missPolicy
  let (taken, s) := s.reportMiss h c.strip c.column c.row c.wire kind
  let s := if taken then s else s.stray h
  let s := s.onStats h fun t =>
    if kind = .padMiss then { t with padMisses := count16 t.padMisses } else { t with leadMisses := count16 t.leadMisses }
  let s := (s.onHead h fun r => { r with ball := false, faultRun := count8 r.faultRun }).clearClaim h
  match policy with
  | .stop => s.enter h (.held .miss)
  | .continue_ =>
    if s.cell.missRun ≤ (s.head h).faultRun then s.enter h (.held .missRun)
    else if holding then s.enter h (.held .request)
    else s.goIdle h

/-- Takes an event of a step in progress: the step's meaning with the claim, or a stray event (R80, R97). -/
def State.inWire (s : State) (h : HeadId) (f : Step → Claim → Option State) : State :=
  let r := s.head h
  if r.state.working then
    match r.step, r.claim with
    | some st, some c => (f st c).getD (s.stray h)
    | _, _ => s.stray h
  else s.stray h

/-! ## Drive events -/

/-- AT_POSITION (R84); at the end of SEEK_FIRST the class is read again, and a LAPSED class holds the head (R76). -/
def State.atPosition (s : State) (h : HeadId) : State :=
  s.inWire h fun st c =>
    match st with
    | .seekFirst =>
      if s.classLapsed (s.claimWire c).cls then
        some ((s.onHead h fun r => { r with resume := some { wire := c.wire, entry := .start } }).enter h
          (.held .classLapsed))
      else some (s.enterBond h c .first)
    | .looping => some (s.enterBond h c .second)
    | .bumpSeek => some (s.enterBond h c .bump)
    | _ => none

/-- A touchdown (R85). -/
def State.touchdown (s : State) (h : HeadId) (c : Claim) (next : Step) (pressesBall : Bool) : State :=
  s.onHead h fun r =>
    { r with capillary := { r.capillary with count := r.capillary.count + 1 },
             lifetime := wrapSucc 281474976710655 r.lifetime,
             claim := some { c with touched := true },
             ball := if pressesBall then false else r.ball,
             step := some next }

/-- CONTACT (R85); in ABORTING it is stray and sets the touchdown flag (R97). -/
def State.contact (s : State) (h : HeadId) : State :=
  match (s.head h).state with
  | .aborting _ =>
    (s.onHead h fun r => { r with claim := r.claim.map fun c => { c with touched := true } }).stray h
  | _ =>
    s.inWire h fun st c =>
      match st with
      | .firstBond .contact => some (s.touchdown h c (.firstBond .bondDone) true)
      | .secondBond .contact => some (s.touchdown h c (.secondBond .bondDone) false)
      | .bump .contact => some (s.touchdown h c (.bump .bondDone) true)
      | _ => none

/-- BOND_DONE (R84). -/
def State.bondDone (s : State) (h : HeadId) : State :=
  s.inWire h fun st c =>
    match st with
    | .firstBond .bondDone => some (s.inStep h (.firstBond .attach) (s.head h).bondTimeout)
    | .secondBond .bondDone => some (s.enterTail h c .tail)
    | .bump .bondDone => some (s.enterTail h c .bumpTail)
    | _ => none

/-- ATTACHED (R84). -/
def State.attached (s : State) (h : HeadId) : State :=
  s.inWire h fun st c =>
    match st with
    | .firstBond .attach => some (s.enterLooping h c)
    | .tail => some (if (s.claimWire c).bump.isSome then s.enterSpark h .bumpSpark else s.enterSpark h .endSpark)
    | .bumpTail => some (s.enterSpark h .endSpark)
    | _ => none

/-- DETACHED (R91). -/
def State.detached (s : State) (h : HeadId) : State :=
  s.inWire h fun st c =>
    match st with
    | .firstBond .attach => some (s.miss h c .padMiss)
    | .tail | .bumpTail => some (s.miss h c .leadMiss)
    | _ => none

/-- SPARK_OK (R86, R87). -/
def State.sparkOk (s : State) (h : HeadId) : State :=
  s.inWire h fun st c =>
    let s := s.onHead h fun r => { r with ball := true }
    match st with
    | .openSpark => some (s.enterSeek h .seekFirst (s.claimPoint c (s.claimWire c).first))
    | .bumpSpark => some (s.enterSeek h .bumpSeek (s.claimPoint c (s.claimWire c).second))
    | .endSpark =>
      let (kept, s) := s.endWire h c
      some (s.afterWire h kept)
    | _ => none

/-- The third failure of a spark step (R86). -/
def State.sparkFailed (s : State) (h : HeadId) (c : Claim) (st : Step) : Option State :=
  let done := ((s.unit c.strip c.column c.row).map UnitEntry.wiresDone).getD 0
  let s := s.onStats h fun t => { t with sparkFailures := count16 t.sparkFailures }
  let s := s.onHead h fun r => { r with ball := false }
  match st with
  | .openSpark =>
    some ((s.onHead h fun r =>
      { r with resume := some { wire := c.wire, entry := .start }, sparkWire := done }).enter h (.held .spark))
  | .bumpSpark =>
    some ((s.onHead h fun r =>
      { r with resume := some { wire := c.wire, entry := .bump }, sparkWire := c.wire }).enter h (.held .spark))
  | .endSpark =>
    let (_, s) := s.endWire h c
    some ((s.onHead h fun r => { r with sparkWire := c.wire }).enter h (.held .spark))
  | _ => none

/-- SPARK_OPEN: retried at tries 1 and 2, a failure at try 3 (R86). -/
def State.sparkOpen (s : State) (h : HeadId) : State :=
  s.inWire h fun st c =>
    match st with
    | .openSpark | .bumpSpark | .endSpark =>
      if (s.head h).sparkTry < 3 then
        let s := s.onStats h fun t => { t with sparkRetries := count16 t.sparkRetries }
        let s := s.onHead h fun r => { r with sparkTry := r.sparkTry + 1 }
        some ((s.sendSpark h).inStep h st (s.head h).sparkTimeout)
      else s.sparkFailed h c st
    | _ => none

/-! ## Stopping (R94 to R97) -/

/-- Sends STOP and goes to ABORTING, NO_BALL, the stop timer started (R94, R100). -/
def State.beginAborting (s : State) (h : HeadId) (cause : AbortCause) : State :=
  let s := (s.sendHead h .stop).onHead h fun r => { r with ball := false, stopTimer := some Config.stopTimeout }
  s.enter h (.aborting cause)

/-- Expiry of a step timer; nothing when none runs (R94, log 3). -/
def State.stepTimeout (s : State) (h : HeadId) : State :=
  let r := s.head h
  if r.state.working ∧ r.stepTimer.isSome then
    (s.onStats h fun t => { t with timeouts := count16 t.timeouts }).beginAborting h .timeout
  else s

/-- What becomes of the claim at the end of ABORTING (R95). -/
def State.endAborting (s : State) (h : HeadId) (cause : AbortCause) : State :=
  let s := s.onHead h fun r => { r with stopTimer := none }
  match (s.head h).claim, cause with
  | some c, .timeout =>
    if c.touched then s.endClaim h c .timeout c.wire
    else s.onHead h fun r => { r with resume := some { wire := c.wire, entry := .start } }
  | some c, .abort => s.endClaim h c .abort c.wire
  | none, _ => s

/-- STOPPED (R95); stray in every other state (R97). -/
def State.stopped (s : State) (h : HeadId) : State :=
  match (s.head h).state with
  | .aborting .timeout => (s.endAborting h .timeout).enter h (.held .timeout)
  | .aborting .abort => (s.endAborting h .abort).enter h (.held .aborted)
  | _ => s.stray h

/-- Expiry of the stop timeout (R95); nothing when it does not run (log 3). -/
def State.stopTimeout (s : State) (h : HeadId) : State :=
  match (s.head h).state with
  | .aborting cause =>
    if (s.head h).stopTimer.isSome then (s.endAborting h cause).enter h (.faulted .unresponsive) else s
  | _ => s

/-- The claim of a head that a drive fault takes out of any state but ABORTING: ended by the touchdown flag, or kept
with the resume point at the wire in progress, or where it was when none was in progress (R96). -/
def State.faultClaim (s : State) (h : HeadId) : State :=
  match (s.head h).claim with
  | some c =>
    if c.touched then s.endClaim h c .drive c.wire
    else if (s.head h).step.isSome then
      s.onHead h fun r => { r with resume := some { wire := c.wire, entry := .start } }
    else s
  | none => s

/-- DRIVE_FAULT (R96); a code outside 1 to 255 is a stray event (R80). -/
def State.driveFault (s : State) (h : HeadId) (code : Nat) : State :=
  if !inRange 1 255 code then s.stray h
  else
    let s := s.onHead h fun r => { r with latched := if r.latched = 0 then code else r.latched }
    let s := s.raise (.ofHead h)
    match (s.head h).state with
    | .off => s.sendHead h .stop
    | .faulted _ => s
    | .aborting cause => (s.endAborting h cause).enter h (.faulted (.drive code))
    | _ =>
      let s := (s.sendHead h .stop).onHead h fun r => { r with ball := false }
      (s.faultClaim h).enter h (.faulted (.drive code))

/-! ## Actions on a head -/

/-- HEAD_ENABLE (R73). -/
def State.enableHead (s : State) (h : HeadId) : Status × State :=
  match (s.head h).state with
  | .off => (.ok, s.goIdle h)
  | _ => (.locked, s)

/-- HEAD_DISABLE (R73). -/
def State.disableHead (s : State) (h : HeadId) : Status × State :=
  match (s.head h).state with
  | .idle => (.ok, s.enter h .off)
  | .stalled _ | .held _ => if (s.head h).claim.isNone then (.ok, s.enter h .off) else (.inUse, s)
  | _ => (.inUse, s)

/-- HOLD (R98). -/
def State.holdHead (s : State) (h : HeadId) : Status × State :=
  match (s.head h).state with
  | .bonding => (.ok, s.enter h .holding)
  | .holding => (.ok, s)
  | .idle | .stalled _ => (.ok, s.enter h (.held .request))
  | _ => (.locked, s)

/-- A RESUME that HELD(CLASS_LAPSED) or HELD(CAPILLARY) refuses (R99). -/
def State.resumeRefused (s : State) (h : HeadId) (reason : HeldReason) : Bool :=
  match (s.head h).claim, (s.head h).resume with
  | some c, some p =>
    let w := s.claimWire { c with wire := p.wire }
    match reason with
    | .classLapsed => s.classLapsed w.cls
    | .capillary => (s.head h).capillary.spent (touchdownsNeeded w p.entry)
    | _ => false
  | _, _ => false

/-- RESUME (R99). -/
def State.resumeHead (s : State) (h : HeadId) : Status × State :=
  match (s.head h).state with
  | .held reason =>
    if s.resumeRefused h reason then (.locked, s)
    else
      let s := if reason = .missRun then s.onHead h fun r => { r with faultRun := 0 } else s
      let s := if reason = .spark then s.onHead h fun r => { r with sparkWire := 0 } else s
      if (s.head h).claim.isSome then (.ok, s.beginWire h) else (.ok, s.goIdle h)
  | _ => (.locked, s)

/-- ABORT of a head whose drive is at rest: the claim end is reported at once (R100, R93). -/
def State.abandonClaim (s : State) (h : HeadId) (c : Claim) : State :=
  let s :=
    if (s.head h).state = .held .spark then s.endClaim h c .spark (s.head h).sparkWire
    else s.endClaim h c .abort (((s.head h).resume.map ResumePoint.wire).getD c.wire)
  s.enter h (.held .aborted)

/-- ABORT (R100). -/
def State.abortHead (s : State) (h : HeadId) : Status × State :=
  match (s.head h).state with
  | .bonding | .holding => (.ok, s.beginAborting h .abort)
  | .held _ | .stalled _ =>
    match (s.head h).claim with
    | some c => (.ok, s.abandonClaim h c)
    | none => (.locked, s)
  | .aborting .timeout => (.ok, s.enter h (.aborting .abort))
  | .aborting .abort => (.ok, s)
  | _ => (.locked, s)

/-- BONDING, HOLDING or ABORTING: a wire may be in progress (R89, R90). -/
def HeadState.engaged : HeadState → Bool
  | .bonding | .holding | .aborting _ => true
  | _ => false

/-- NEW_CAPILLARY (R89). -/
def State.newCapillary (s : State) (h : HeadId) : Status × State :=
  if (s.head h).state.engaged then (.inUse, s)
  else
    (.ok, (s.onHead h fun r =>
      { r with capillary := { r.capillary with count := 0, serial := wrapSucc 65535 r.capillary.serial },
               ball := false, faultRun := 0 }).markHead h)

/-- HEAD_RESET: the head link's receiver waits for the next frame, the timers stop, NO_BALL, HELD(ABORTED) (R101, R188).
The entry to HELD sets the head's flag (R79), where R184 has HEAD_RESET change nothing held by the Link Interface: R79
is followed, DESIGN CHOICE (log 43). -/
def State.resetHead (s : State) (h : HeadId) : Status × State :=
  match (s.head h).state with
  | .faulted _ =>
    (.ok, ((s.resetReceiver h).onHead h fun r => { r with ball := false, stepTimer := none, stopTimer := none }).enter h
      (.held .aborted))
  | _ => (.locked, s)

/-- A field written to a head record; a locked one writes nothing. -/
def HeadField.write (r : Head) : HeadField → Head
  | .positionTimeout n => { r with positionTimeout := n }
  | .bondTimeout n => { r with bondTimeout := n }
  | .sparkTimeout n => { r with sparkTimeout := n }
  | .sparkCurrent n => { r with sparkCurrent := n }
  | .sparkTime n => { r with sparkTime := n }
  | .life n => { r with capillary := { r.capillary with life := n } }
  | .wearInterval n => { r with capillary := { r.capillary with interval := n } }
  | .wearCap n => { r with capillary := { r.capillary with wearCap := n } }
  | .kP n => { r with capillary := { r.capillary with kP := n } }
  | .kF n => { r with capillary := { r.capillary with kF := n } }
  | .locked _ => r

/-- The field names the life L. -/
def HeadField.namesLife : HeadField → Bool
  | .life _ => true
  | _ => false

/-- The field gives a life below N. -/
def HeadField.lifeBelow (count : Nat) : HeadField → Bool
  | .life n => decide (n < count)
  | _ => false

/-- The field is one that no AMEND writes. -/
def HeadField.isLocked : HeadField → Bool
  | .locked _ => true
  | _ => false

/-- AMEND of HEAD, its refusals in the order of R90; N is judged against the L the head holds (log 15). R90 puts the spark
wire, the spark try, the consecutive fault units and the stop timeout neither among the fields an AMEND may name nor
among those it names as LOCKED: an AMEND naming one is LOCKED like the other fields not amended, after BAD_FIELD for a
value out of range, a stop timeout other than 100 among them: DESIGN CHOICE (log 15). -/
def State.amendHead (s : State) (h : HeadId) (fields : List HeadField) : Status × State :=
  let r := s.head h
  if !fields.all (headFieldOk r.capillary.life) then (.badField, s)
  else if fields.any (HeadField.lifeBelow r.capillary.count) then (.badField, s)
  else if fields.any HeadField.namesLife && r.state.engaged then (.inUse, s)
  else if fields.any HeadField.isLocked then (.locked, s)
  else
    let s := s.setHead h (fields.foldl HeadField.write r)
    if fields.any HeadField.namesLife then (.ok, s.markHead h) else (.ok, s)

/-- A head's share of cell reset, its claimed unit already decided (R103). -/
def State.cellResetHead (s : State) (h : HeadId) : State :=
  let s := ((s.resetReceiver h).sendHead h .stop).onHead h fun r =>
    { r with step := none, stepTimer := none, stopTimer := none, ball := false, claim := none, resume := none,
             sparkWire := 0, sparkTry := 1 }
  match (s.head h).state with
  | .off => s
  | _ => s.goIdle h

/-! ## The heater gate's announcements (R83, R107) -/

/-- A head STALLED(HEATER) with a claim is released when the gate passes (R83). -/
def State.releaseStalled (s : State) (h : HeadId) : State :=
  let r := s.head h
  if r.state = .stalled .heater ∧ r.claim.isSome ∧ s.gatePasses then s.beginWire h else s

/-- Evaluates the gate and announces a change of its result to the arbiter and both heads (R107). -/
def State.judgeGate (s : State) : State :=
  let before := s.gatePasses
  let s := s.evaluateGate
  if s.gatePasses = before then s else ((s.dueArbiter).releaseStalled .one).releaseStalled .two

end Sys2Proof.Machine
end

