-- ==== Sys2Proof/Machine/Arbiter.lean ====
section
/-! DEFINITION. The Claim Arbiter: candidates, the class gate, grants, stalls, contests and re-examination
(R61 to R77). -/

namespace Sys2Proof.Machine

/-- A head has a standing request: IDLE, or STALLED with no claim (R64). -/
def Head.asks (r : Head) : Bool :=
  match r.state with
  | .idle => r.claim.isNone
  | .stalled _ => r.claim.isNone
  | _ => false

/-- Two columns lie at least the clearance apart (R65). -/
def apart (clearance a b : Nat) : Bool := decide (a + clearance ≤ b) || decide (b + clearance ≤ a)

/-- A column meets the clearance test of head h: the other head holds no claim, or its column is far enough (R65). -/
def State.clears (s : State) (h : HeadId) (column : Nat) : Bool :=
  match (s.head (otherHead h)).claim with
  | none => true
  | some c => apart s.arbiter.clearance column c.column

/-- A candidate of head h: PENDING, in the window columns in force, and clear of the other head (R65). -/
def State.isCandidate (s : State) (h : HeadId) (r : Strip) (p : Pos) : Bool :=
  s.inForce p.column && s.clears h p.column && (r.entry p.column p.row).any fun u => u.state == .pending

/-- The strip that units are granted from: the strip in WINDOW (R9, R65). -/
def State.windowStrip (s : State) : Option Strip :=
  match s.feed.window.bind s.strip with
  | some r => if r.location = .window then some r else none
  | none => none

/-- The first candidate of head h in unit order (R65). -/
def State.firstCandidate (s : State) (h : HeadId) (r : Strip) : Option Pos :=
  (positions r.columns r.rows).find? (s.isCandidate h r)

/-- A class passes the class gate: QUALIFIED, WATCH, or PROVING with a budget left (R66); a class that is not in the
table does not (log 19). -/
def State.classPasses (s : State) (id : Nat) : Bool :=
  match s.cls id with
  | none => false
  | some c =>
    match c.state with
    | .qualified | .watch => true
    | .proving => decide (0 < c.budget)
    | .lapsed _ => false

/-- The class gate of a strip's program (R66). -/
def State.classGate (s : State) (strip : Nat) : Bool := (s.copyOfStrip strip).classesUsed.all s.classPasses

/-- The class is PROVING. -/
def State.classProving (s : State) (id : Nat) : Bool := (s.cls id).any fun c => c.state == .proving

/-- Admission of a claim of head h under a set of classes that pass the class gate: the PROVING ones each give one of
their budget, and they are the admission record (R66). -/
def State.recordAdmission (s : State) (h : HeadId) (used : List Nat) : State :=
  let proving := used.filter s.classProving
  (proving.foldl (fun s id => s.onClass id fun c => { c with budget := c.budget - 1 }) s).setAdmission h (some proving)

/-- The Quality Unit's answer to a request to admit a claim: it judges the class gate again; none when the gate fails,
and nothing is changed (R66). -/
def State.admitClaim (s : State) (h : HeadId) (used : List Nat) : Option State :=
  if used.all s.classPasses then some (s.recordAdmission h used) else none

/-- An admission is undone: each class of the record that is still PROVING is given one budget back, under the cap of
R72, and the record is discarded (R71). -/
def State.undoAdmission (s : State) (h : HeadId) : State :=
  (((s.admission h).getD []).foldl State.returnBudget s).setAdmission h none

/-- The Store takes a grant: the strip's location is WINDOW and the unit is PENDING (R9). -/
def State.takesGrant (s : State) (id : Nat) (p : Pos) : Bool :=
  ((s.strip id).any fun r => r.location == .window) &&
    (s.unit id p.column p.row).any fun u => u.state == .pending

/-- A grant that the Store takes: the unit is CLAIMED with wires done 0 and no parts (R9). -/
def State.claimUnit (s : State) (h : HeadId) (id : Nat) (p : Pos) : State :=
  (s.writeUnit id p.column p.row .pending (.claimed h) none).onStrip id fun q =>
    q.onEntry p.column p.row fun u => { u with wiresDone := 0, pull := none }

/-- The claim context handed over: the strip and unit, the wire count read at this moment, the proving classes of the
admission (R71, R81). -/
def State.handOver (s : State) (h : HeadId) (id : Nat) (p : Pos) : State :=
  s.beginUnit h
    { strip := id, column := p.column, row := p.row, wireCount := (s.copyOfStrip id).wires.length, wire := 1,
      touched := false, proving := (s.admission h).getD [] }

/-- What becomes of a grant (R71). -/
inductive GrantEnd
  | taken | refused | withdrawn
deriving DecidableEq, Repr

/-- A grant after its admission (R71). Withdrawn before it is sent, it is not sent and the admission is undone; refused
by the Store, the admission is undone; withdrawn when the Store has taken it, the arbiter reports the claim end in the
head's place. A decision being one act of the model, the head still asks and the unit is still PENDING when the grant is
sent, and the grant is taken (log 1). -/
def State.sendGrant (s : State) (h : HeadId) (id : Nat) (p : Pos) : GrantEnd × State :=
  if !(s.head h).asks then (.withdrawn, s.undoAdmission h)
  else if !s.takesGrant id p then (.refused, s.undoAdmission h)
  else
    let s := s.claimUnit h id p
    if (s.head h).asks then (.taken, s.handOver h id p)
    else (.withdrawn, (s.reportClaimEnd h id p.column p.row 1 .abort false).2)

/-- What a decision comes to (R65, R68). -/
inductive Decision
  | granted (strip : Strip) (unit : Pos)
  | stalled (reason : StallReason)
deriving DecidableEq, Repr

/-- The decision on a request of head h (R65, R68). -/
def State.decision (s : State) (h : HeadId) : Decision :=
  match s.arbiter.window with
  | .indexing => .stalled .index
  | .closed => .stalled .noUnit
  | .opened _ _ =>
    match s.windowStrip with
    | none => .stalled .noUnit
    | some r =>
      match s.firstCandidate h r with
      | none => .stalled .noUnit
      | some p =>
        if !s.gatePasses then .stalled .heater
        else if !s.classGate r.id then .stalled .cls
        else .granted r p

/-- Decides a request of head h and carries the decision out: true when a unit was chosen. A head already stalled for
the reason is left as it is (R68). A request whose admission or grant is refused is decided again from the start (R66,
R71); the fuel bounds the decisions. -/
def State.serveFor : Nat → State → HeadId → Bool × State
  | 0, s, _ => (false, s)
  | fuel + 1, s, h =>
    match s.decision h with
    | .stalled reason => (false, if (s.head h).state = .stalled reason then s else s.enter h (.stalled reason))
    | .granted r p =>
      match s.admitClaim h (s.copyOfStrip r.id).classesUsed with
      | none => (true, (State.serveFor fuel s h).2)
      | some s =>
        match s.sendGrant h r.id p with
        | (.refused, s) => (true, (State.serveFor fuel s h).2)
        | (_, s) => (true, s)

/-- Decides a request of head h: each refused grant is for another unit of the window strip. -/
def State.serve (s : State) (h : HeadId) : Bool × State :=
  State.serveFor ((s.windowStrip.elim 0 fun r => r.units.length) + 1) s h

/-- The first at next contest after a contest: the head decided second, when a unit was chosen in it (R70). DEDUCED
(log 5): a decision runs from the choice of a unit, so a re-examination in which none is chosen is no contest. -/
def nextFirst (first : HeadId) (chosen : Bool) : HeadId := if chosen then otherHead first else first

/-- Decides both standing requests as a contest (R70). -/
def State.contest (s : State) : State :=
  let f := s.arbiter.first
  let (a, s) := s.serve f
  let (b, s) := s.serve (otherHead f)
  { s with arbiter := { s.arbiter with first := nextFirst f (a || b) } }

/-- The re-examination of the standing requests (R69). -/
def State.reexamine (s : State) : State :=
  match s.head1.asks, s.head2.asks with
  | true, true => s.contest
  | true, false => (s.serve .one).2
  | false, true => (s.serve .two).2
  | false, false => s

/-- The report of window columns brings them and the staged clearance into force (R62, R63). -/
def State.openWindow (s : State) (first last : Nat) : State :=
  { s with arbiter := { s.arbiter with window := .opened first last, clearance := s.cell.clearance } }.dueArbiter

/-- The report that an index has begun (R62). -/
def State.windowIndexing (s : State) : State :=
  { s with arbiter := { s.arbiter with window := .indexing } }.dueArbiter

/-- The report that the window is closed (R62). -/
def State.closeWindow (s : State) : State :=
  { s with arbiter := { s.arbiter with window := .closed } }.dueArbiter

end Sys2Proof.Machine
end

