-- ==== Sys2Proof/Machine/Feed.lean ====
section
/-! DEFINITION. The Feed Controller: slots, orders and their ends, the moves of the three groups, jams and their
clearance (R20 to R43). -/

namespace Sys2Proof.Machine

/-! ## Groups and orders -/

/-- The timeout of an order (R22). -/
def timeoutOf (c : Cell) : Order → Nat
  | .scan => c.elevate
  | .elevate _ => c.elevate
  | .push _ => c.push
  | .transferPreheat | .transferWindow => c.transfer
  | .index _ => c.index

/-- The strip with a record that an order of a group moves (R20). -/
def State.movedStrip (s : State) (g : Group) (o : Order) : Option Nat :=
  match g, o with
  | .track, .transferPreheat => s.feed.preheat
  | .track, .index _ => s.feed.window
  | .track, .transferWindow => s.feed.window
  | .output, .elevate _ => s.feed.exit
  | .output, .push _ => s.feed.exit
  | _, _ => none

/-- Sends an order: the group is BUSY, its timer runs, and the strip it moves is in motion (R20, R22). -/
def State.beginOrder (s : State) (g : Group) (o : Order) : State :=
  let t := timeoutOf s.cell o
  let s := (s.sendTrack g o).setGroup g { state := .busy o, jammed := none, timer := some t, limit := t }
  match s.movedStrip g o with
  | some id => s.reportBegun id
  | none => s

/-- A group has its moves to examine (R29). -/
def State.dueGroup (s : State) : Group → State
  | .input => s.dueInput
  | .track => s.dueTrack
  | .output => s.dueOutput

/-- A group goes to IDLE and examines its moves (R29). -/
def State.idleGroup (s : State) (g : Group) : State := (s.setGroup g .reset).dueGroup g

/-- A group goes to HELD with no order. -/
def State.holdGroup (s : State) (g : Group) (reason : HoldReason) : State :=
  s.setGroup g { GroupContext.reset with state := .held reason }

/-- A group goes to HELD with an order, jammed or lost; the FEED flag is set (R22, R25). -/
def State.jamGroup (s : State) (g : Group) (reason : HoldReason) (o : Order) : State :=
  (s.setGroup g { GroupContext.reset with state := .held reason, jammed := some o }).raise .feed

/-! ## Slots -/

/-- The numbers of the slots that pass a test, lowest first. -/
def slotsWhere {α : Type} (p : α → Bool) (slots : List α) : List Nat :=
  (slots.zipIdx.filter fun e => p e.1).map fun e => e.2 + 1

/-- The next slot in a direction among those that pass a test (R23, R24). -/
def nextSlot {α : Type} (d : Direction) (p : α → Bool) (slots : List α) : Option Nat :=
  match d with
  | .bottomUp => (slotsWhere p slots).head?
  | .topDown => (slotsWhere p slots).getLast?

/-- Changes an input slot; a change of its state marks the side's panels (R26). -/
def State.onInSlot (s : State) (n : Nat) (f : InSlot → InSlot) : State :=
  let changed := (nth s.feed.inSlots n).any fun q => (f q).state != q.state
  let s := { s with feed := { s.feed with inSlots := updateNth s.feed.inSlots n f } }
  if changed then s.markMagazine .input else s

/-- Writes an output slot; a change marks the side's panels (R26). -/
def State.setOutSlot (s : State) (n : Nat) (v : OutSlot) : State :=
  let changed := (nth s.feed.outSlots n).any fun q => q != v
  let s := { s with feed := { s.feed with outSlots := updateNth s.feed.outSlots n fun _ => v } }
  if changed then s.markMagazine .output else s

/-! ## Zones -/

/-- Writes what a zone holds; the panels bound to the zone are marked (R158). -/
def State.setZone (s : State) (z : Zone) (strip : Option Nat) : State :=
  State.markZone
    (match z with
    | .preheat => { s with feed := { s.feed with preheat := strip } }
    | .window => { s with feed := { s.feed with window := strip } }
    | .exit => { s with feed := { s.feed with exit := strip } }) z

/-- Writes the soak timer. -/
def State.setSoak (s : State) (v : Soak) : State := { s with feed := { s.feed with soak := v } }

/-- The soak timer set to a soak time in seconds; 0 makes it elapsed at once (R32). -/
def soakOf (seconds : Nat) : Soak := if seconds = 0 then .elapsed else .running (seconds * 1000)

/-- Releases the move target of the input side. -/
def State.freeInTarget (s : State) : State := { s with feed := { s.feed with inTarget := none } }

/-- Releases the move target of the output side. -/
def State.freeOutTarget (s : State) : State := { s with feed := { s.feed with outTarget := none } }

/-! ## Examining the moves (R29) -/

/-- The INPUT group's moves: a scan (R26), else a push-in (R30; log 6). -/
def State.examineInput (s : State) : State :=
  if s.feed.run && s.feed.input.state == .idle then
    if s.feed.inScanDue then
      State.beginOrder { s with feed := { s.feed with inScanDue := false } } .input .scan
    else if s.feed.inPresent then
      match nextSlot s.cell.inDirection (fun q => q.state == .loaded) s.feed.inSlots with
      | none => (s.holdGroup .input .inputEmpty).raise .magazine
      | some n =>
        if s.feed.preheat.isSome then s
        else
          match s.canCreate with
          | .ok => State.beginOrder { s with feed := { s.feed with inTarget := some n } } .input (.elevate n)
          | .full => (s.holdGroup .input .tableFull).raise .feed
          | _ => s.raise .feed
    else s
  else s

/-- The window columns in force: every unit of the strip in them is terminal (R34). CLOSED holds no column (R62); an
INDEXING window is not complete. -/
def State.windowComplete (s : State) (r : Strip) : Bool :=
  match s.arbiter.window with
  | .indexing => false
  | .closed => true
  | .opened a b =>
    (positions r.columns r.rows).all fun p =>
      !inRange a b p.column || (r.entry p.column p.row).all fun u => u.state.terminal

/-- The columns remaining (R34). -/
def Strip.remaining (r : Strip) : Nat := r.columns + 1 - r.nextColumn

/-- Begins an index of n columns (R34, R62). -/
def State.beginIndex (s : State) (n : Nat) : State :=
  let before := match s.arbiter.window with | .opened a b => some (a, b) | _ => none
  let s := { s with feed := { s.feed with beforeIndex := before } }
  (s.beginOrder .track (.index n)).windowIndexing

/-- The TRACK group's moves: window entry (R33), an index (R34), the exit (R35). -/
def State.examineTrack (s : State) : State :=
  if s.feed.run && s.feed.track.state == .idle then
    match s.feed.window.bind s.strip with
    | none =>
      if s.feed.window.isNone && s.feed.preheat.isSome && s.feed.soak == .elapsed then
        s.beginOrder .track .transferPreheat
      else s
    | some r =>
      if !s.windowComplete r then s
      else if 1 ≤ r.remaining then s.beginIndex (min s.cell.width r.remaining)
      else if s.feed.exit.isNone then (s.beginOrder .track .transferWindow).closeWindow
      else s
  else s

/-- The OUTPUT group's moves: a scan (R26), else a push-out (R36). -/
def State.examineOutput (s : State) : State :=
  if s.feed.run && s.feed.output.state == .idle then
    if s.feed.outScanDue then
      State.beginOrder { s with feed := { s.feed with outScanDue := false } } .output .scan
    else if s.feed.outPresent && s.feed.exit.isSome then
      match nextSlot s.cell.outDirection (fun q => q == .empty) s.feed.outSlots with
      | none => (s.holdGroup .output .outputFull).raise .magazine
      | some n => State.beginOrder { s with feed := { s.feed with outTarget := some n } } .output (.elevate n)
    else s
  else s

/-! ## The ends of moves -/

/-- The strip of a push-in is in PREHEAT: its record is made from a slot with an incoming map, the soak starts, the
group goes to IDLE (R31). Refused with the Store's status, it changes no more than the Store does (R4). -/
def State.pushedIn (s : State) (slot : Nat) (skip : List Pos) : Status × State :=
  let soak := (s.program s.store.program).elim 0 fun p => p.active.soak
  match s.createStrip slot skip with
  | (.ok, some id, s) =>
    (.ok, (((((s.setZone .preheat (some id)).setSoak (soakOf soak)).markStrip id).freeInTarget).idleGroup .input).dueTrack)
  | (st, _, s) => (st, s)

/-- The incoming map of an input slot, none counting as empty. -/
def State.slotMap (s : State) (n : Nat) : List Pos := ((nth s.feed.inSlots n).bind InSlot.map).getD []

/-- Completion of a push-in from a slot of a magazine still present: the slot is TAKEN (R31). -/
def State.completePushIn (s : State) (slot : Nat) : Status × State :=
  match s.pushedIn slot (s.slotMap slot) with
  | (.ok, s) => (.ok, s.onInSlot slot fun q => { q with state := .taken, map := none })
  | r => r

/-- The end of a window entry (R33, R56, R62). -/
def State.completeEntry (s : State) : State :=
  match s.feed.preheat.bind s.strip with
  | none => s.idleGroup .track
  | some r =>
    let s := s.onProgram r.program Program.applyStaged
    let s := s.reportEntry r.id ((s.program r.program).elim 0 Program.generation)
    let s := (((s.setZone .window (some r.id)).setZone .preheat none).setSoak .idle).markStrip r.id
    ((s.openWindow 1 (min s.cell.width r.columns)).idleGroup .track).dueInput

/-- The end of an index of n columns (R34, R62). -/
def State.completeIndex (s : State) (n : Nat) : State :=
  match s.feed.window.bind s.strip with
  | none => s.idleGroup .track
  | some r =>
    let s := s.reportIndexed r.id n
    let s := { s with feed := { s.feed with beforeIndex := none } }
    (s.openWindow r.nextColumn (r.nextColumn + n - 1)).idleGroup .track

/-- The end of an exit (R35). -/
def State.completeExit (s : State) : State :=
  match s.feed.window with
  | none => s.idleGroup .track
  | some id =>
    let s := s.reportExit id
    let s := ((s.setZone .exit (some id)).setZone .window none).markStrip id
    ((s.windowLeft).idleGroup .track).dueOutput

/-- The OUTPUT group goes to IDLE with EXIT emptied or its move given up; the TRACK group examines the exit (R36). -/
def State.endPushOut (s : State) : State := ((s.freeOutTarget).idleGroup .output).dueTrack

/-- The end of a push-out to a slot (R36). -/
def State.completePushOut (s : State) (slot : Nat) : State :=
  match s.feed.exit with
  | none => s.endPushOut
  | some id =>
    let s := (s.setOutSlot slot (.filled id)).reportOutput id slot
    (((s.setZone .exit none).markStrip id).markMagazine .output).endPushOut

/-- DONE ends the order in flight (R26, R31, R33 to R36). -/
def State.completeOrder (s : State) (g : Group) (o : Order) : State :=
  match o with
  | .scan => (s.idleGroup g).raise .magazine
  | .elevate n => s.beginOrder g (.push n)
  | .push n =>
    if g = .output then s.completePushOut n
    else
      match s.completePushIn n with
      | (.ok, s) => s
      | (_, s) => State.jamGroup { s with feed := { s.feed with inTarget := some n } } .input .jam (.push n)
  | .transferPreheat => s.completeEntry
  | .index n => s.completeIndex n
  | .transferWindow => s.completeExit

/-! ## Events -/

/-- DONE (R20). -/
def State.feedDone (s : State) (g : Group) : State :=
  match (s.group g).state with
  | .busy o => s.completeOrder g o
  | _ => s

/-- JAM (R22). -/
def State.feedJam (s : State) (g : Group) : State :=
  match (s.group g).state with
  | .busy o => s.jamGroup g .jam o
  | _ => s

/-- Expiry of an order's timeout; nothing when none runs (R22, log 3). -/
def State.orderTimeout (s : State) (g : Group) : State :=
  match (s.group g).state, (s.group g).timer with
  | .busy o, some _ => s.jamGroup g .jam o
  | _, _ => s

/-- An input slot as a scan sees it (R26). -/
def InSlot.seen (q : InSlot) (occupied : Bool) : InSlot :=
  if occupied then { q with state := .loaded } else { q with state := .empty, map := none }

/-- SLOT_SEEN (R20, R22, R26). One naming slot 0 is discarded as one above the count is, without restarting the timer:
DESIGN CHOICE (log 36), R20 names the slots above the count alone. -/
def State.slotSeen (s : State) (g : Group) (slot : Nat) (occupied : Bool) : State :=
  match g, (s.group g).state with
  | .input, .busy .scan =>
    if inRange 1 s.feed.inSlots.length slot then
      let s := s.setGroup .input { s.feed.input with timer := some s.feed.input.limit }
      s.onInSlot slot fun q => q.seen occupied
    else s
  | .output, .busy .scan =>
    if inRange 1 s.feed.outSlots.length slot then
      let s := s.setGroup .output { s.feed.output with timer := some s.feed.output.limit }
      s.setOutSlot slot (if occupied then .unknown else .empty)
    else s
  | _, _ => s

/-- A presence line rises; a line already high changes nothing (R25, log 3). -/
def State.presenceRise (s : State) : Side → State
  | .input =>
    if s.feed.inPresent then s
    else
      let s := { s with feed := { s.feed with inPresent := true, inScanDue := true } }
      ((s.raise .magazine).markMagazine .input).dueInput
  | .output =>
    if s.feed.outPresent then s
    else
      let s := { s with feed := { s.feed with outPresent := true, outScanDue := true } }
      ((s.raise .magazine).markMagazine .output).dueOutput

/-- What becomes of a side's group when its magazine goes (R25). -/
def State.loseMagazine (s : State) (g : Group) : State :=
  match (s.group g).state with
  | .idle | .held .inputEmpty | .held .outputFull | .held .tableFull => s.idleGroup g
  | .busy o => s.jamGroup g .magazineLost o
  | .held .jam =>
    (s.setGroup g { GroupContext.reset with state := .held .magazineLost, jammed := (s.group g).jammed }).raise .feed
  | .held .magazineLost => s

/-- The strips of FILLED output slots, in slot order. -/
def filledStrips (slots : List OutSlot) : List Nat :=
  slots.filterMap fun q => match q with | .filled id => some id | _ => none

/-- A presence line falls; a line already low changes nothing (R25, log 3). -/
def State.presenceFall (s : State) : Side → State
  | .input =>
    if !s.feed.inPresent then s
    else
      let s := { s with feed := { s.feed with
        inPresent := false, inScanDue := false, inTarget := none, inSlots := s.feed.inSlots.map fun _ => .reset } }
      ((s.raise .magazine).markMagazine .input).loseMagazine .input
  | .output =>
    if !s.feed.outPresent then s
    else
      let s := (filledStrips s.feed.outSlots).foldl State.reportMagazineGone s
      let s := { s with feed := { s.feed with
        outPresent := false, outScanDue := false, outTarget := none,
        outSlots := s.feed.outSlots.map fun _ => .unknown } }
      ((s.raise .magazine).markMagazine .output).loseMagazine .output

/-- The soak timer reaches 0; nothing when it does not run (R32, log 3). -/
def State.soakElapsed (s : State) : State :=
  match s.feed.soak with
  | .running _ => (s.setSoak .elapsed).dueTrack
  | _ => s

/-! ## Clearance (R39 to R42) -/

/-- The dispositions of FEED_CLEAR (R39). -/
inductive Disposition
  | completed | back | removed
deriving DecidableEq, Repr

/-- The zone a strip is removed from is emptied, and the Store departs the strip (R6, R41). -/
def State.removeFrom (s : State) (z : Zone) : State :=
  match s.zoneStrip z with
  | some id => (s.reportRemoved id).setZone z none
  | none => s

/-- The move of a strip in a zone is reported abandoned (R6). -/
def State.abandonIn (s : State) (z : Zone) : State :=
  match s.zoneStrip z with
  | some id => s.reportAbandoned id
  | none => s

/-- The scan of a side is due again (R40, R42). -/
def State.scanAgain (s : State) (g : Group) (due : Bool) : State :=
  match g with
  | .input => { s with feed := { s.feed with inScanDue := s.feed.inScanDue || due } }
  | .output => { s with feed := { s.feed with outScanDue := s.feed.outScanDue || due } }
  | .track => s

/-- The presence line of a group's side. -/
def State.present (s : State) : Group → Bool
  | .input => s.feed.inPresent
  | .output => s.feed.outPresent
  | .track => false

/-- The push-in of a slot is given up: the slot is JAMMED and its map discarded (R40). -/
def State.jamSlot (s : State) (slot : Nat) : State :=
  ((s.onInSlot slot fun q => { q with state := .jammed, map := none }).freeInTarget).idleGroup .input

/-- The push-out is given up with the strip still in EXIT, or with the strip taken off (R40, R42). -/
def State.giveUpPushOut (s : State) : Disposition → State
  | .removed => (s.removeFrom .exit).endPushOut
  | _ => (s.abandonIn .exit).endPushOut

/-- A strip taken off WINDOW: the window is closed and window-left signalled (R41). -/
def State.removeWindow (s : State) : State := (((s.removeFrom .window).closeWindow).windowLeft).idleGroup .track

/-- The jam of an order of the TRACK group is cleared (R41). -/
def State.clearTrack (s : State) (o : Order) (d : Disposition) : State :=
  match o, d with
  | .transferPreheat, .completed => s.completeEntry
  | .transferPreheat, .back => ((s.abandonIn .preheat).setSoak .elapsed).idleGroup .track
  | .transferPreheat, .removed => (((s.removeFrom .preheat).setSoak .idle).idleGroup .track).dueInput
  | .index n, .completed => s.completeIndex n
  | .index _, .back =>
    let s := s.abandonIn .window
    let s :=
      match s.feed.beforeIndex with
      | some (a, b) => State.openWindow { s with feed := { s.feed with beforeIndex := none } } a b
      | none => s
    s.idleGroup .track
  | .index _, .removed => (State.removeWindow { s with feed := { s.feed with beforeIndex := none } })
  | .transferWindow, .completed => s.completeExit
  | .transferWindow, .back => (s.abandonIn .window).idleGroup .track
  | .transferWindow, .removed => s.removeWindow
  | _, _ => s.idleGroup .track

/-- A jam of the INPUT or OUTPUT group, its magazine still present, is cleared (R40). -/
def State.clearSide (s : State) (g : Group) (o : Order) (d : Disposition) : Status × State :=
  match o with
  | .scan => (.ok, (s.scanAgain g true).idleGroup g)
  | .elevate n =>
    match g, d with
    | _, .completed => (.ok, s.beginOrder g (.push n))
    | .output, d => (.ok, s.giveUpPushOut d)
    | _, _ => (.ok, s.jamSlot n)
  | .push n =>
    match g, d with
    | .output, .completed => (.ok, s.completePushOut n)
    | .output, d => (.ok, s.giveUpPushOut d)
    | _, .completed => s.completePushIn n
    | _, _ => (.ok, s.jamSlot n)
  | _ => (.ok, s.idleGroup g)

/-- An order lost with its magazine is cleared (R42). -/
def State.clearLost (s : State) (g : Group) (o : Order) (d : Disposition) : Status × State :=
  match o with
  | .scan => (.ok, (s.scanAgain g (s.present g)).idleGroup g)
  | .elevate _ =>
    match g with
    | .output => (.ok, s.giveUpPushOut d)
    | _ => (.ok, s.idleGroup g)
  | .push n =>
    match g, d with
    | .output, .completed =>
      match s.feed.exit with
      | some id => (.ok, ((((s.reportOutput id n).reportMagazineGone id).setZone .exit none)).endPushOut)
      | none => (.ok, s.endPushOut)
    | .output, d => (.ok, s.giveUpPushOut d)
    | _, .completed => s.pushedIn n []
    | _, _ => (.ok, s.idleGroup g)
  | _ => (.ok, s.idleGroup g)

/-- ACT FEED_CLEAR (R39): a group code outside the three is out of range, a group that is not held by a jam or a loss is
LOCKED. -/
def State.feedClear (s : State) (code : Nat) (d : Disposition) : Status × State :=
  match groupOfCode code with
  | none => (.badField, s)
  | some g =>
    match (s.group g).state, (s.group g).jammed with
    | .held .jam, some o =>
      match g with
      | .track => (.ok, s.clearTrack o d)
      | _ => s.clearSide g o d
    | .held .magazineLost, some o => s.clearLost g o d
    | .held .jam, none => (.ok, s.idleGroup g)
    | .held .magazineLost, none => (.ok, s.idleGroup g)
    | _, _ => (.locked, s)

/-! ## Requests -/

/-- ACT FEED_RUN (R21). -/
def State.feedRun (s : State) : State :=
  ((State.dueInput { s with feed := { s.feed with run := true } }).dueTrack).dueOutput

/-- ACT FEED_STOP (R21). -/
def State.feedStop (s : State) : State := { s with feed := { s.feed with run := false } }

/-- Puts the positions of a map in unit order (R27). -/
def unitOrder (m : List Pos) : List Pos := m.foldl (fun q p => insertBy posKey p q) []

/-- The judgement of a write to an input slot, in the order of R27; `state` says that the slot state is named. -/
def State.judgeInslot (s : State) (slot : Nat) (maps : List (List Pos)) (state : Bool) : Status :=
  match nth s.feed.inSlots slot with
  | none => .noSuch
  | some q =>
    if !maps.all mapOk then .badField
    else if s.feed.inTarget = some slot then .inUse
    else if q.state ≠ .unknown ∧ q.state ≠ .loaded then .locked
    else if state then .locked
    else .ok

/-- Writes an input slot when the judgement is OK. -/
def State.writeInslot (s : State) (slot : Nat) (st : Status) (f : InSlot → InSlot) : Status × State :=
  if st = .ok then (.ok, { s with feed := { s.feed with inSlots := updateNth s.feed.inSlots slot f } }) else (st, s)

/-- PUT of INSLOT (R27). -/
def State.putInslot (s : State) (slot : Nat) (map : Option (List Pos)) (tag : Option Nat) : Status × State :=
  s.writeInslot slot (s.judgeInslot slot map.toList false) fun q => { q with map := map.map unitOrder, tag }

/-- The field names the slot state. -/
def InslotField.namesState : InslotField → Bool
  | .state => true
  | _ => false

/-- The map a field gives, none for a field that gives none. -/
def InslotField.givenMap : InslotField → Option (List Pos)
  | .map (some m) => some m
  | _ => none

/-- A field written to an input slot. -/
def InslotField.write (q : InSlot) : InslotField → InSlot
  | .state => q
  | .map m => { q with map := m.map unitOrder }
  | .tag t => { q with tag := t }

/-- AMEND of INSLOT (R27). -/
def State.amendInslot (s : State) (slot : Nat) (fields : List InslotField) : Status × State :=
  s.writeInslot slot
    (s.judgeInslot slot (fields.filterMap InslotField.givenMap) (fields.any InslotField.namesState))
    fun q => fields.foldl InslotField.write q

/-- RETIRE of INSLOT (R27). -/
def State.retireInslot (s : State) (slot : Nat) : Status × State :=
  s.writeInslot slot (s.judgeInslot slot [] false) fun q => { q with map := none, tag := none }

/-! ## The feed fields of the cell record (R21, R28) -/

/-- A field lies in its range (R28). -/
def CellFeedField.ok : CellFeedField → Bool
  | .inputCount n | .outputCount n => inRange 1 40 n
  | .inputDirection c | .outputDirection c => (directionOfCode c).isSome
  | .elevate n | .push n | .transfer n | .index n => inRange 100 10000 n
  | .runState => true

/-- The group whose magazine a field belongs to. -/
def CellFeedField.side : CellFeedField → Option Group
  | .inputCount _ | .inputDirection _ => some .input
  | .outputCount _ | .outputDirection _ => some .output
  | _ => none

/-- A side's slot count and direction may change: its line is low and its group is not HELD(MAGAZINE_LOST) (R28). -/
def State.sideFree (s : State) (g : Group) : Bool :=
  !s.present g && (s.group g).state != .held .magazineLost

/-- A slot list brought to a count: the slots above it go, new ones are as given (R28). -/
def resize {α : Type} (new : α) (n : Nat) (slots : List α) : List α :=
  slots.take n ++ List.replicate (n - slots.length) new

/-- A field written; a side whose slots change has its panels marked (log 33). -/
def State.writeFeedField (s : State) : CellFeedField → State
  | .inputCount n =>
    State.markMagazine { s with feed := { s.feed with inSlots := resize .reset n s.feed.inSlots } } .input
  | .outputCount n =>
    State.markMagazine { s with feed := { s.feed with outSlots := resize .unknown n s.feed.outSlots } } .output
  | .inputDirection c =>
    { s with cell := { s.cell with inDirection := (directionOfCode c).getD s.cell.inDirection } }
  | .outputDirection c =>
    { s with cell := { s.cell with outDirection := (directionOfCode c).getD s.cell.outDirection } }
  | .elevate n => { s with cell := { s.cell with elevate := n } }
  | .push n => { s with cell := { s.cell with push := n } }
  | .transfer n => { s with cell := { s.cell with transfer := n } }
  | .index n => { s with cell := { s.cell with index := n } }
  | .runState => s

/-- AMEND of CELL judged by the Feed Controller (R21, R28); the order of the refusals is log 15's. -/
def State.amendCellFeed (s : State) (fields : List CellFeedField) : Status × State :=
  if fields.contains .runState then (.locked, s)
  else if !fields.all CellFeedField.ok then (.badField, s)
  else if fields.any fun f => (CellFeedField.side f).any fun g => !s.sideFree g then (.inUse, s)
  else (.ok, fields.foldl State.writeFeedField s)

/-! ## Cell reset (R43) -/

/-- A group's share of cell reset: a BUSY group is HELD(JAM) and its strip's move is abandoned. -/
def State.cellResetGroup (s : State) (g : Group) : State :=
  match (s.group g).state with
  | .busy o =>
    let s := match s.movedStrip g o with | some id => s.reportAbandoned id | none => s
    s.jamGroup g .jam o
  | _ => s

/-- The Feed Controller's share of cell reset. -/
def State.cellResetFeed (s : State) : State :=
  (((s.feedStop).cellResetGroup .input).cellResetGroup .track).cellResetGroup .output

end Sys2Proof.Machine
end

