-- ==== Sys2Proof/Machine/Picture.lean ====
section
/-! DEFINITION. What renders and draws write: rectangles, text, the content of each panel kind, and the pixels of the
draw kinds (R154, R160 to R164). -/

namespace Sys2Proof.Machine

/-! ## Rectangles (R154) -/

/-- The width of the effective rectangle. -/
def Panel.effWidth (p : Panel) : Nat := min p.width (Config.screenWidth - p.x)

/-- The height of the effective rectangle. -/
def Panel.effHeight (p : Panel) : Nat := min p.height (Config.screenHeight - p.y)

/-- A pixel lies in a rectangle. -/
def inRect (x y width height px py : Nat) : Bool :=
  decide (x ≤ px) && decide (px < x + width) && decide (y ≤ py) && decide (py < y + height)

/-- A pixel lies in a panel's effective rectangle. -/
def Panel.covers (p : Panel) (px py : Nat) : Bool := inRect p.x p.y p.effWidth p.effHeight px py

/-- Two panels overlap: their effective rectangles share a pixel. -/
def Panel.overlaps (p q : Panel) : Bool :=
  decide (max p.x q.x < min (p.x + p.effWidth) (q.x + q.effWidth)) &&
    decide (max p.y q.y < min (p.y + p.effHeight) (q.y + q.effHeight))

/-! ## Text (R160) -/

/-- The character codes of a name. -/
def codesOf (name : String) : List Nat := name.toList.map Char.toNat

/-- The digits of a number; the fuel bounds their count. -/
def digitsOf : Nat → Nat → List Nat
  | 0, _ => []
  | fuel + 1, n => (if n < 10 then [] else digitsOf fuel (n / 10)) ++ [48 + n % 10]

/-- A number in decimal without leading zeros. -/
def decimal (n : Nat) : List Nat := digitsOf 20 n

/-- Items separated by one space each. -/
def spaced : List (List Nat) → List Nat
  | [] => []
  | [a] => a
  | a :: rest => a ++ 32 :: spaced rest

/-- Two numbers with a stroke between them. -/
def stroked (a b : Nat) : List Nat := decimal a ++ 47 :: decimal b

/-- A glyph sets a pixel: codes 32 to 126 have glyphs, the rest are blank (R160; the pattern is a free value, log 8). -/
def glyphSets (code x y : Nat) : Bool := inRange 32 126 code && Config.glyphPixel code x y

/-- Whether lines of text set a pixel given from the top left of the panel. -/
def textSets (lines : List (List Nat)) (px py : Nat) : Bool :=
  match lines.drop (py / 16) with
  | [] => false
  | codes :: _ =>
    match codes.drop (px / 8) with
    | [] => false
    | code :: _ => glyphSets code (px % 8) (py % 16)

/-! ## The content of the panels (R161, R162) -/

/-- The colour map index of a unit state (R153). -/
def ColourMap.ofState (m : ColourMap) : UnitState → Nat
  | .skip => m.skip
  | .pending => m.pending
  | .claimed _ => m.claimed
  | .bonded => m.bonded
  | .fault => m.fault
  | .rework => m.rework
  | .reject => m.reject

/-- The border of a unit: a pull part with status PENDING or DONE (R161). -/
def ColourMap.border (m : ColourMap) (u : UnitEntry) : Option Nat :=
  match u.pull with
  | some (.ticketed .pending _) => some m.pullPending
  | some (.ticketed .done _) => some m.pullDone
  | _ => none

/-- The width and the height of a cell of a strip map (R161). -/
def cellSize (p : Panel) (r : Strip) : Nat × Nat := (p.effWidth / r.columns, p.effHeight / r.rows)

/-- A strip map is drawn as a line of counts (R161). -/
def summarised (p : Panel) (r : Strip) : Bool := decide ((cellSize p r).1 < 2) || decide ((cellSize p r).2 < 2)

/-- The line of counts of a strip (R161). -/
def summaryLine (r : Strip) : List Nat :=
  let c := r.counts
  spaced [decimal r.id, codesOf "S" ++ decimal c.skip, codesOf "P" ++ decimal c.pending,
    codesOf "C" ++ decimal c.claimed, codesOf "B" ++ decimal c.bonded, codesOf "F" ++ decimal c.fault,
    codesOf "W" ++ decimal c.rework, codesOf "J" ++ decimal c.reject]

/-- The cells of a strip map (R161). -/
def mapCells (p : Panel) (m : ColourMap) (r : Strip) : List MapCell :=
  let (cw, ch) := cellSize p r
  (positions r.columns r.rows).filterMap fun q =>
    (r.entry q.column q.row).map fun u =>
      { x := (q.column - 1) * cw, y := (q.row - 1) * ch, width := cw - 1, height := ch - 1,
        fill := m.ofState u.state, border := m.border u }

/-- The name of a head state. -/
def HeadState.name : HeadState → String
  | .off => "OFF"
  | .idle => "IDLE"
  | .bonding => "BONDING"
  | .holding => "HOLDING"
  | .stalled _ => "STALLED"
  | .aborting _ => "ABORTING"
  | .held _ => "HELD"
  | .faulted _ => "FAULTED"

/-- The reason or cause of a head state, or nothing. -/
def HeadState.why : HeadState → List Nat
  | .stalled .index => codesOf "INDEX"
  | .stalled .noUnit => codesOf "NO_UNIT"
  | .stalled .cls => codesOf "CLASS"
  | .stalled .heater => codesOf "HEATER"
  | .aborting .timeout => codesOf "TIMEOUT"
  | .aborting .abort => codesOf "ABORT"
  | .held .request => codesOf "REQUEST"
  | .held .miss => codesOf "MISS"
  | .held .missRun => codesOf "MISS_RUN"
  | .held .spark => codesOf "SPARK"
  | .held .capillary => codesOf "CAPILLARY"
  | .held .classLapsed => codesOf "CLASS_LAPSED"
  | .held .timeout => codesOf "TIMEOUT"
  | .held .aborted => codesOf "ABORTED"
  | .faulted (.drive code) => codesOf "DRIVE(" ++ decimal code ++ codesOf ")"
  | .faulted .unresponsive => codesOf "UNRESPONSIVE"
  | _ => []

/-- The lines of a HEAD panel (R162). -/
def headLines (h : HeadId) (r : Head) : List (List Nat) :=
  [spaced [codesOf "HEAD", decimal (headNumber h), codesOf r.state.name],
   r.state.why,
   match r.claim with
   | some c => spaced [decimal c.strip, decimal c.column, decimal c.row]
   | none => codesOf "NO CLAIM",
   stroked r.capillary.count r.capillary.life]

/-- An EWMA as a CLASS_PAGE line writes it: floor(E / 16) with a decimal point before the last digit, three dashes when
absent (R162; log 26). -/
def ewmaText : Option Nat → List Nat
  | none => codesOf "---"
  | some e => decimal (e / 16 / 10) ++ 46 :: [48 + e / 16 % 10]

/-- The state of a class and its lapse reason as a line writes them. -/
def ClassState.texts : ClassState → List (List Nat)
  | .proving => [codesOf "PROVING"]
  | .qualified => [codesOf "QUALIFIED"]
  | .watch => [codesOf "WATCH"]
  | .lapsed .lowResult => [codesOf "LAPSED", codesOf "LOW_RESULT"]
  | .lapsed .lowAverage => [codesOf "LAPSED", codesOf "LOW_AVERAGE"]
  | .lapsed .overdue => [codesOf "LAPSED", codesOf "OVERDUE"]
  | .lapsed .repeatLow => [codesOf "LAPSED", codesOf "REPEAT_LOW"]

/-- The line of a class id on its page (R162). -/
def State.classLine (s : State) (id : Nat) : List Nat :=
  match s.cls id with
  | none => decimal id
  | some c => spaced ([decimal id] ++ c.state.texts ++ [ewmaText c.ewma])

/-- The line of a pending ticket (R162). -/
def Ticket.line (t : Ticket) : List Nat :=
  spaced [decimal t.number, decimal t.strip, decimal t.column, decimal t.row,
    stroked (t.wires.filter TicketWire.reported).length t.wires.length, decimal t.remaining]

/-- The character of an input slot (R162). -/
def InSlotState.char : InSlotState → Nat
  | .unknown => 85
  | .empty => 69
  | .loaded => 76
  | .taken => 84
  | .jammed => 74

/-- The character of an output slot (R162). -/
def OutSlot.char : OutSlot → Nat
  | .unknown => 85
  | .empty => 69
  | .filled _ => 70

/-- The lines of a MAGAZINE panel (R162). -/
def State.magazineLines (s : State) (side : Side) : List (List Nat) :=
  let (name, present, chars) :=
    match side with
    | .input => ("INPUT", s.feed.inPresent, s.feed.inSlots.map fun q : InSlot => q.state.char)
    | .output => ("OUTPUT", s.feed.outPresent, s.feed.outSlots.map OutSlot.char)
  [spaced [codesOf name, codesOf (if present then "PRESENT" else "ABSENT")], chars.take 20, (chars.drop 20).take 20]

/-- A text cut into lines of n glyphs; the fuel bounds their count. -/
def wrapped (n : Nat) : Nat → List Nat → List (List Nat)
  | 0, _ => []
  | _, [] => []
  | fuel + 1, codes => codes.take n :: wrapped n fuel (codes.drop n)

/-- The strip a STRIP_MAP panel shows (R161). -/
def State.shownStrip (s : State) : PanelKind → Option Strip
  | .zoneMap z => (s.zoneStrip z).bind s.strip
  | .stripMap id => s.strip id
  | _ => none

/-- The lines a render of a panel draws (R161, R162). -/
def State.panelLines (s : State) (p : Panel) : List (List Nat) :=
  match p.kind with
  | .zoneMap _ | .stripMap _ =>
    match s.shownStrip p.kind with
    | none => [codesOf "NO STRIP"]
    | some r => if summarised p r then [summaryLine r] else []
  | .head h => headLines h (s.head h)
  | .classPage page =>
    spaced [codesOf "CLASSES", decimal (8 * (page - 1) + 1), decimal (8 * page)] ::
      (List.range 8).map fun k => s.classLine (8 * (page - 1) + k + 1)
  | .tickets =>
    spaced [decimal s.quality.tickets.length, codesOf "PENDING"] :: (s.quality.tickets.take 6).map Ticket.line
  | .magazine side => s.magazineLines side
  | .text => wrapped ((p.effWidth + 7) / 8) 64 p.text
  | .canvas => []

/-- The cells a render of a panel draws (R161). -/
def State.panelCells (s : State) (p : Panel) : List MapCell :=
  match s.shownStrip p.kind with
  | none => []
  | some r => if summarised p r then [] else mapCells p s.screen.colours r

/-- What a render of a panel takes when it begins (R160). -/
def State.picture (s : State) (p : Panel) : Picture := { panel := p, lines := s.panelLines p, cells := s.panelCells p }

/-- The index a cell gives a pixel of the panel, none outside it; the border is the outermost pixels (R161). -/
def MapCell.index (c : MapCell) (px py : Nat) : Option Nat :=
  if inRect c.x c.y c.width c.height px py then
    match c.border with
    | some b =>
      if px = c.x ∨ py = c.y ∨ px + 1 = c.x + c.width ∨ py + 1 = c.y + c.height then some b else some c.fill
    | none => some c.fill
  else none

/-- The index a render writes at a pixel given from the top left of the panel (R160, R161). -/
def Picture.index (p : Picture) (px py : Nat) : Nat :=
  if textSets p.lines px py then p.panel.foreground
  else (p.cells.findSome? fun c => c.index px py).getD p.panel.background

/-! ## Draws (R163, R164) -/

/-- The pixel of a line at step i of n, along one axis (R164). -/
def lineAt (a b n i : Nat) : Int := (a : Int) + (2 * i * ((b : Int) - a) + n) / (2 * n)

/-- A pixel lies on a line (R164). -/
def onLine (x0 y0 x1 y1 px py : Nat) : Bool :=
  let n := max (max x0 x1 - min x0 x1) (max y0 y1 - min y0 y1)
  if n = 0 then decide (px = x0) && decide (py = y0)
  else (List.range (n + 1)).any fun i => lineAt x0 x1 n i == px && lineAt y0 y1 n i == py

/-- A pixel lies in a disc (R164). -/
def inDisc (cx cy radius : Nat) (px py : Int) : Bool :=
  decide ((px - cx) * (px - cx) + (py - cy) * (py - cy) ≤ (radius : Int) * radius)

/-- A pixel lies on the outline of a disc: in it, with one of its four neighbours outside (R164). -/
def onOutline (cx cy radius : Nat) (px py : Int) : Bool :=
  inDisc cx cy radius px py &&
    !(inDisc cx cy radius (px - 1) py && inDisc cx cy radius (px + 1) py &&
      inDisc cx cy radius px (py - 1) && inDisc cx cy radius px (py + 1))

/-- A draw writes a pixel given from the top left of its panel, before clipping (R163, R164). -/
def drawSets (shape : DrawShape) (px py : Nat) : Bool :=
  match shape with
  | .fillRect x y w h => inRect x y w h px py
  | .hLine x y l => inRect x y l 1 px py
  | .vLine x y l => inRect x y 1 l px py
  | .line x0 y0 x1 y1 => onLine x0 y0 x1 y1 px py
  | .circle cx cy r form => if form = 1 then inDisc cx cy r px py else onOutline cx cy r px py
  | .glyphs x y codes => decide (x ≤ px) && decide (y ≤ py) && decide (py < y + 16) && textSets [codes] (px - x) (py - y)
  | .unknown _ => false

end Sys2Proof.Machine
end

