-- ==== Sys2Proof/Machine/Screen.lean ====
section
/-! DEFINITION. The Screen Engine: operations in flight, frame starts, the panel table, draws, the colour map, blinking
and the backlight (R152 to R168). -/

namespace Sys2Proof.Machine

/-! ## Writing frame memory -/

/-- Writes the pixels of a panel's effective rectangle: pixel (x, y) of the screen becomes f x y of what it held. -/
def State.paintPanel (s : State) (p : Panel) (f : Nat → Nat → Byte → Byte) : State :=
  let g (a : Nat) (v : Byte) : Byte := f (a % Config.screenWidth) (a / Config.screenWidth) v
  { s with screen := { s.screen with frame := Memory.paintRows g p.x p.effWidth p.effHeight p.y s.screen.frame } }

/-- The visible panels of the active copy. -/
def State.visiblePanels (s : State) : List Panel :=
  (s.screen.active.map ActivePanel.panel).filter Panel.visible

/-- A pixel is covered by a visible panel of a greater number (R164). -/
def State.coveredAbove (s : State) (number px py : Nat) : Bool :=
  s.visiblePanels.any fun q => decide (number < q.number) && q.covers px py

/-- Changes an active panel. -/
def State.onPanel (s : State) (n : Nat) (f : ActivePanel → ActivePanel) : State :=
  { s with screen := { s.screen with active := updateBy (·.panel.number) n f s.screen.active } }

/-! ## The engine (R159) -/

/-- The engine chooses its next operation: the oldest draw, else the stale panel of lowest number, else it is idle and
sets RENDER: of a cleared screen nothing is left to render. It chooses only while none is in flight. -/
def State.chooseOperation (s : State) : State :=
  match s.screen.operation with
  | some _ => s
  | none =>
    match s.screen.queue, s.screen.stale with
    | d :: rest, _ =>
      { s with screen := { s.screen with
        queue := rest, operation := some (.draw d ((s.panel d.panel).map ActivePanel.panel)) } }
    | [], n :: rest =>
      let s := { s with screen := { s.screen with stale := rest } }
      match s.panel n with
      | some a => { s with screen := { s.screen with operation := some (.render (s.picture a.panel)) } }
      | none => s
    | [], [] => State.raise { s with screen := { s.screen with cleared := false } } .render

/-- Completion of a render (R160, R162); nothing when none is in flight (log 3). Its pixels are written here (log 9). -/
def State.renderComplete (s : State) : State :=
  match s.screen.operation with
  | some (.render pic) =>
    let p := pic.panel
    let s := s.paintPanel p fun x y _ => BitVec.ofNat 8 (pic.index (x - p.x) (y - p.y))
    let s := { s with screen := { s.screen with operation := none, cleared := false, renders := count16 s.screen.renders } }
    let s := if p.kind = .canvas then s.onPanel p.number fun a => { a with canvasCleared := true } else s
    (s.markPanels fun q => decide (p.number < q.number) && q.overlaps p).dueEngine
  | _ => s

/-- Counts a dropped draw. -/
def State.dropDraw (s : State) : State :=
  { s with screen := { s.screen with drawsDropped := count16 s.screen.drawsDropped } }

/-- Completion of a draw: its pixels are written, clipped, or it is dropped (R164); nothing when none is in flight
(log 3). -/
def State.drawComplete (s : State) : State :=
  match s.screen.operation with
  | some (.draw d target) =>
    let s := { s with screen := { s.screen with operation := none } }
    match target with
    | some p =>
      if p.visible ∧ p.kind = .canvas then
        let s := s.paintPanel p fun x y v =>
          if drawSets d.shape (x - p.x) (y - p.y) && !s.coveredAbove p.number x y then BitVec.ofNat 8 d.index else v
        State.dueEngine { s with screen := { s.screen with drawsExecuted := count16 s.screen.drawsExecuted } }
      else s.dropDraw.dueEngine
    | none => s.dropDraw.dueEngine
  | _ => s

/-- The first render of a cleared screen gives way to a draw: it is withdrawn with none of its pixels written, and its
panel is stale again (R165). R159 has a draw wait for a render in flight: for this render R165 is followed, DESIGN
CHOICE (log 42). -/
def State.giveWay (s : State) : State :=
  match s.screen.operation with
  | some (.render pic) =>
    if s.screen.cleared then
      State.markPanels { s with screen := { s.screen with operation := none } } fun q => q.number == pic.panel.number
    else s
  | _ => s

/-- ACT DRAW (R163). A value out of range while the queue holds 8 is BAD_FIELD: R163 gives no order of it and BUSY,
DESIGN CHOICE (log 15). -/
def State.draw (s : State) (panel index : Nat) (shape : DrawShape) : Status × State :=
  if !inRange 0 15 panel || !inRange 0 15 index || !shapeOk shape then (.badField, s)
  else if Config.maxDraws ≤ s.screen.queue.length then (.busy, s)
  else
    let d : Draw := { panel, index, shape }
    let s := s.giveWay
    (.ok, State.dueEngine { s with screen := { s.screen with queue := s.screen.queue ++ [d] } })

/-- The draws that are thrown away with the queue: the queued ones, and one in flight (R165, R173). -/
def Screen.discards (c : Screen) : Nat :=
  c.queue.length + (match c.operation with | some (.draw _ _) => 1 | _ => 0)

/-- ACT CLEAR_SCREEN: the number of draws discarded, and the effect (R165). The engine chooses at the cancel (R159), and
the render it then begins gives way to a draw that is taken before it completes: DESIGN CHOICE (log 42). -/
def State.clearScreen (s : State) : Nat × State :=
  let n := s.screen.discards
  let s := { s with screen := { s.screen with operation := none, cleared := true, queue := [], frame := [] } }
  (n, s.markAll.dueEngine)

/-- The Screen Engine's share of cell reset (R173). The discarded draws are added to the draws dropped count, as R173
says; R155 has cell reset leave the engine counts as they stand: R173 is followed, DESIGN CHOICE (log 40). -/
def State.cellResetScreen (s : State) : State :=
  let dropped := min 65535 (s.screen.drawsDropped + s.screen.discards)
  let s := { s with screen := { s.screen with operation := none, queue := [], drawsDropped := dropped } }
  s.markAll.dueEngine

/-! ## Frame start (R152, R156, R166) -/

/-- A blink counter one frame later (R166). -/
def ActivePanel.advance (a : ActivePanel) : ActivePanel :=
  { a with counter := if a.panel.blink then (if a.counter + 1 < a.panel.period then a.counter + 1 else 0) else 0 }

/-- The rectangle of a panel changes. -/
def rectDiffers (p q : Panel) : Bool :=
  p.x != q.x || p.y != q.y || p.width != q.width || p.height != q.height

/-- A panel number whose records differ between the copies: its active and its staged record (R156). -/
structure PanelChange where
  number : Nat
  old : Option ActivePanel
  new : Option Panel

/-- The changes a frame start applies, in increasing number. -/
def State.panelChanges (s : State) : List PanelChange :=
  (List.range 16).filterMap fun n =>
    let old := s.panel n
    let new := findBy Panel.number n s.screen.staged
    if old.map ActivePanel.panel = new then none else some { number := n, old, new }

/-- The old area is cleared: the panel was visible and is retired, it is made not visible, or its rectangle changes
(R156). -/
def PanelChange.clears (c : PanelChange) : Bool :=
  match c.old, c.new with
  | some a, none => a.panel.visible
  | some a, some p => (a.panel.visible && !p.visible) || rectDiffers a.panel p
  | none, _ => false

/-- The area of a number is redrawn by the panels that overlap it: its rectangle or visible flag changed, or it was
created or retired (R156). -/
def PanelChange.disturbs (c : PanelChange) : Bool :=
  match c.old, c.new with
  | some a, some p => rectDiffers a.panel p || a.panel.visible != p.visible
  | _, _ => true

/-- The record of a number after its application: the canvas-cleared flag is kept, the blink counter is set to 0 when
the panel is created or its blink flag or period changes (R156, R166). -/
def PanelChange.record (c : PanelChange) : Option ActivePanel :=
  match c.old, c.new with
  | _, none => none
  | none, some p => some { panel := p, canvasCleared := false, counter := 0 }
  | some a, some p =>
    some { panel := p, canvasCleared := a.canvasCleared,
           counter := if a.panel.blink = p.blink ∧ a.panel.period = p.period then a.counter else 0 }

/-- Step 1 of R156 for one number. -/
def State.clearOld (s : State) (c : PanelChange) : State :=
  match c.old with
  | some a => if c.clears then s.paintPanel a.panel fun _ _ _ => 0 else s
  | none => s

/-- Step 2 of R156 for one number; a panel no longer visible leaves the stale set (log 11). -/
def State.copyRecord (s : State) (c : PanelChange) : State :=
  let gone := !(c.new.any Panel.visible)
  { s with screen := { s.screen with
    active :=
      match c.record with
      | some a => insertBy (·.panel.number) a s.screen.active
      | none => removeBy (·.panel.number) c.number s.screen.active,
    stale := if gone then s.screen.stale.filter (· != c.number) else s.screen.stale } }

/-- Step 3 of R156 for one number. -/
def State.markChange (s : State) (c : PanelChange) : State :=
  let s := s.markPanels fun q => q.number == c.number
  if c.disturbs then
    s.markPanels fun q => (c.old.any fun a => q.overlaps a.panel) || c.new.any fun p => q.overlaps p
  else s

/-- The panel of an operation. -/
def Operation.panelNumber : Operation → Nat
  | .render pic => pic.panel.number
  | .draw d _ => d.panel

/-- The operation in flight is cancelled when its panel is applied; a cancelled draw is dropped (R156, log 9). -/
def State.cancelFor (s : State) (cs : List PanelChange) : State :=
  match s.screen.operation with
  | none => s
  | some op =>
    if cs.any fun c => c.number == op.panelNumber then
      let s := State.dueEngine { s with screen := { s.screen with operation := none } }
      match op with
      | .draw _ _ => s.dropDraw
      | .render _ => s
    else s

/-- The application of the staged copy (R156). -/
def State.applyPanels (s : State) : State :=
  let cs := s.panelChanges
  let s := s.cancelFor cs
  let s := cs.foldl State.clearOld s
  let s := cs.foldl State.copyRecord s
  cs.foldl State.markChange s

/-- FRAME_START: blink counters advance, staged panels are applied, palette changes come into use (log 11). -/
def State.frameStart (s : State) : State :=
  let s := { s with screen := { s.screen with active := s.screen.active.map ActivePanel.advance } }
  let s := s.applyPanels
  { s with screen := { s.screen with paletteShown := s.screen.palette } }

/-! ## Scan-out (R152, R166) -/

/-- A panel is in its off half (R166). -/
def ActivePanel.offHalf (a : ActivePanel) : Bool := a.panel.blink && decide (a.panel.period / 2 ≤ a.counter)

/-- The visible panel of greatest number that holds a pixel (R166, R169). -/
def State.topPanel (s : State) (x y : Nat) : Option ActivePanel :=
  (s.screen.active.filter fun a => a.panel.visible && a.panel.covers x y).getLast?

/-- The palette index shown at a pixel (R166). -/
def State.shownIndex (s : State) (x y : Nat) : Nat :=
  let i := (Memory.read s.screen.frame (pixelNumber x y)).toNat
  match s.topPanel x y with
  | some a => if a.offHalf && i == a.panel.foreground then a.panel.background else i
  | none => i

/-- The 5-6-5 colour sent at a pixel (R152). -/
def State.colourAt (s : State) (x y : Nat) : Nat := s.screen.paletteShown.getD (s.shownIndex x y) 0

/-! ## The panel table (R154, R155) -/

/-- The answer to a write that names a number outside 0 to 15: 16 is LOCKED, the rest NO_SUCH (R155). -/
def panelKeyRefusal (number : Nat) : Option Status :=
  if number ≤ 15 then none else if number = 16 then some .locked else some .noSuch

/-- Writes a record into the staged copy. -/
def State.stagePanel (s : State) (p : Panel) : State :=
  { s with screen := { s.screen with staged := insertBy Panel.number p s.screen.staged } }

/-- PUT of PANEL (R155). -/
def State.putPanel (s : State) (number : Nat) (b : PanelBody) : Status × State :=
  match panelKeyRefusal number with
  | some st => (st, s)
  | none =>
    if (findBy Panel.number number s.screen.staged).isSome then (.exists_, s)
    else
      match panelOf number b with
      | none => (.badField, s)
      | some p => (.ok, s.stagePanel p)

/-- A field written to a panel as a frame carries it. -/
def PanelField.write (b : PanelBody) : PanelField → PanelBody
  | .number | .canvasCleared => b
  | .kind n => { b with kind := n }
  | .x n => { b with x := n }
  | .y n => { b with y := n }
  | .width n => { b with width := n }
  | .height n => { b with height := n }
  | .binding v => { b with binding := v }
  | .background n => { b with background := n }
  | .foreground n => { b with foreground := n }
  | .blink v => { b with blink := v }
  | .period n => { b with period := n }
  | .visible v => { b with visible := v }
  | .text v => { b with text := v }

/-- A field that is not amended (R154). -/
def PanelField.fixed : PanelField → Bool
  | .number | .canvasCleared => true
  | _ => false

/-- The field names the text. -/
def PanelField.namesText : PanelField → Bool
  | .text _ => true
  | _ => false

/-- The record an AMEND makes; a panel whose kind is no longer TEXT keeps no text, unless the AMEND gives it some
(log 34). -/
def amendedBody (p : Panel) (fields : List PanelField) : PanelBody :=
  let b := fields.foldl PanelField.write (bodyOf p)
  if b.kind ≠ 6 ∧ !fields.any PanelField.namesText then { b with text := [] } else b

/-- AMEND of PANEL (R154, R155). -/
def State.amendPanel (s : State) (number : Nat) (fields : List PanelField) : Status × State :=
  match panelKeyRefusal number with
  | some st => (st, s)
  | none =>
    match findBy Panel.number number s.screen.staged with
    | none => (.noSuch, s)
    | some p =>
      if fields.any PanelField.fixed then (.locked, s)
      else
        match panelOf number (amendedBody p fields) with
        | none => (.badField, s)
        | some q => (.ok, s.stagePanel q)

/-- RETIRE of PANEL (R155). -/
def State.retirePanel (s : State) (number : Nat) : Status × State :=
  match panelKeyRefusal number with
  | some st => (st, s)
  | none =>
    if (findBy Panel.number number s.screen.staged).isNone then (.noSuch, s)
    else (.ok, { s with screen := { s.screen with staged := removeBy Panel.number number s.screen.staged } })

/-! ## The colour map (R153) -/

/-- A colour map field lies in its range. -/
def ColourField.ok : ColourField → Bool
  | .palette i v => inRange 0 15 i && inRange 0 65535 v
  | .map _ i => inRange 0 15 i

/-- The field names a colour map entry. -/
def ColourField.namesMap : ColourField → Bool
  | .map _ _ => true
  | .palette _ _ => false

/-- A colour map entry written. -/
def ColourMap.set (m : ColourMap) (e : ColourEntry) (i : Nat) : ColourMap :=
  match e with
  | .skip => { m with skip := i }
  | .pending => { m with pending := i }
  | .claimed => { m with claimed := i }
  | .bonded => { m with bonded := i }
  | .fault => { m with fault := i }
  | .rework => { m with rework := i }
  | .reject => { m with reject := i }
  | .pullPending => { m with pullPending := i }
  | .pullDone => { m with pullDone := i }

/-- A field of the colour map record written. -/
def State.writeColour (s : State) : ColourField → State
  | .palette i v => { s with screen := { s.screen with palette := s.screen.palette.set i v } }
  | .map e i => { s with screen := { s.screen with colours := s.screen.colours.set e i } }

/-- AMEND of COLOURMAP (R153). Naming a colour map entry marks the STRIP_MAP panels whether or not its index changes:
DESIGN CHOICE (log 44). -/
def State.amendColours (s : State) (fields : List ColourField) : Status × State :=
  if !fields.all ColourField.ok then (.badField, s)
  else
    let s := fields.foldl State.writeColour s
    (.ok, if fields.any ColourField.namesMap then s.markMaps else s)

/-! ## The backlight (R167, R168) -/

/-- A backlight field lies in its range. -/
def BacklightField.ok : BacklightField → Bool
  | .level n | .dimLevel n => inRange 0 255 n
  | .off _ => true
  | .dimTime n => inRange 0 3600 n

/-- A backlight field written; the dim time acts on the dim state and the dim timer (R168). -/
def State.writeBacklight (s : State) : BacklightField → State
  | .level n => { s with screen := { s.screen with backlight := { s.screen.backlight with level := n } } }
  | .off b => { s with screen := { s.screen with backlight := { s.screen.backlight with off := b } } }
  | .dimLevel n => { s with screen := { s.screen with backlight := { s.screen.backlight with dimLevel := n } } }
  | .dimTime n =>
    let s := { s with screen := { s.screen with backlight := { s.screen.backlight with dimTime := n } } }
    if n = 0 then { s with touch := { s.touch with dimmed := false } }
    else { s with touch := { s.touch with dimTimer := 0 } }

/-- AMEND of BACKLIGHT (R167). -/
def State.amendBacklight (s : State) (fields : List BacklightField) : Status × State :=
  if fields.all BacklightField.ok then (.ok, fields.foldl State.writeBacklight s) else (.badField, s)

/-- The level in force (R167). -/
def State.levelInForce (s : State) : Nat :=
  if s.touch.dimmed then s.screen.backlight.dimLevel else s.screen.backlight.level

/-- The duty of the backlight output, in parts of 256 (R167). -/
def State.duty (s : State) : Nat := if s.screen.backlight.off then 0 else s.levelInForce + 1

end Sys2Proof.Machine
end

