-- ==== Sys2Proof/Machine/Touch.lean ====
section
/-! DEFINITION. The Touch Interface: presses, the dim state, the key switch and the operator's actions
(R168 to R172, R181). -/

namespace Sys2Proof.Machine

/-- Records what became of an operator action: a refusal sets the mark, counts, and sets the TOUCH flag; an action that
is taken leaves the record (R172). -/
def State.recordAction (s : State) (panel : Nat) (action : TouchAction) (status : Status) : State :=
  if status = .ok then s
  else
    State.raise { s with touch := { s.touch with
      refused := some { panel, action, status }, refusals := count16 s.touch.refusals } } .touch

/-- Issues an operator action: its owner's answer is recorded (R172). -/
def State.issue (panel : Nat) (action : TouchAction) (answer : Status × State) : State :=
  answer.2.recordAction panel action answer.1

/-- A press on a STRIP_MAP panel (R170). -/
def State.pressMap (s : State) (p : Panel) (x y : Nat) : State :=
  match s.shownStrip p.kind with
  | none => s
  | some r =>
    if summarised p r then s
    else
      let c := (x - p.x) / (cellSize p r).1 + 1
      let w := (y - p.y) / (cellSize p r).2 + 1
      if r.columns < c ∨ r.rows < w then s
      else if (r.entry c w).any fun u => u.state == .reject then
        State.issue p.number .unrejectUnit (s.unrejectUnit r.id c w)
      else State.issue p.number .rejectUnit (s.rejectUnit r.id c w)

/-- A press on a HEAD panel (R171). -/
def State.pressHead (s : State) (p : Panel) (h : HeadId) (x : Nat) : State :=
  if x < p.x + p.effWidth / 2 then
    match (s.head h).state with
    | .held _ => State.issue p.number .resume (s.resumeHead h)
    | _ => State.issue p.number .hold (s.holdHead h)
  else if s.touch.supervisor then State.issue p.number .abort (s.abortHead h)
  else s.recordAction p.number .abort .locked

/-- A press on a CLASS_PAGE panel (R171). -/
def State.pressClasses (s : State) (p : Panel) (page y : Nat) : State :=
  let k := (y - p.y) / 16
  if k = 0 ∨ 8 < k then s
  else if s.touch.supervisor then State.issue p.number .requalify (s.requalify (8 * (page - 1) + k))
  else s.recordAction p.number .requalify .locked

/-- A press that hits a panel, at a point of the screen (R170 to R172). -/
def State.pressPanel (s : State) (p : Panel) (x y : Nat) : State :=
  match p.kind with
  | .zoneMap _ | .stripMap _ => s.pressMap p x y
  | .head h => s.pressHead p h x
  | .classPage page => s.pressClasses p page y
  | .tickets | .magazine _ => s
  | .text | .canvas =>
    State.raise { s with touch := { s.touch with
      latest := some { panel := p.number, x := x - p.x, y := y - p.y } } } .touch

/-- PRESS (R168, R169); a continued touch sets the dim timer to 0 and does nothing else (log 20). Every press taken
starts the time since the last press taken again (R167). -/
def State.press (s : State) (x y : Nat) : State :=
  let s := { s with touch := { s.touch with dimTimer := 0, sincePress := 0 } }
  if s.touch.pressed then s
  else
    let s := { s with touch := { s.touch with pressed := true, presses := count16 s.touch.presses } }
    if s.touch.dimmed then { s with touch := { s.touch with dimmed := false } }
    else
      let x := min x 799
      let y := min y 479
      match s.topPanel x y with
      | some a => s.pressPanel a.panel x y
      | none => s

/-- RELEASE (R169). -/
def State.release (s : State) : State := { s with touch := { s.touch with pressed := false } }

/-- The dim timer reaches the dim time (R168); nothing when dimming is off or the state is DIMMED already (log 3). -/
def State.dimTimeout (s : State) : State :=
  if s.screen.backlight.dimTime ≠ 0 ∧ s.touch.dimmed = false then
    { s with touch := { s.touch with dimmed := true } }
  else s

/-- A change of the key switch line (R171). -/
def State.keySwitch (s : State) (supervisor : Bool) : State := { s with touch := { s.touch with supervisor } }

end Sys2Proof.Machine
end

