-- ==== Sys2Proof/Machine/Encoding.lean ====
section
/-! DEFINITION. The bytes the part puts on its ports: responses and their bodies, the link status byte, order frames and
verdict bytes (R185 to R188). Codes no table of the manual gives are log 16's. -/

namespace Sys2Proof.Machine

/-! ## Numbers -/

/-- A number in a count of bytes, most significant first. -/
def bytesOf : Nat → Nat → List Byte
  | 0, _ => []
  | width + 1, n => BitVec.ofNat 8 (n / 256 ^ width) :: bytesOf width n

/-- The number a list of bytes carries, most significant first. -/
def numberOf (bs : List Byte) : Nat := bs.foldl (fun n b => n * 256 + b.toNat) 0

/-- A signed number in two's complement in a count of bytes. -/
def signedBytes (width : Nat) (n : Int) : List Byte := bytesOf width (n % 256 ^ width).toNat

/-- A marker byte. -/
def marker (b : Bool) : List Byte := if b then [1] else [0]

/-- A value that may be absent: a presence byte, then the value, 0 when absent (R185). -/
def optional (width : Nat) : Option Nat → List Byte
  | some n => 1 :: bytesOf width n
  | none => 0 :: bytesOf width 0

/-- A part that may be absent: a presence byte, then its bytes; when absent, zeros in the part's least width
(R185, log 16). -/
def optionalPart {α : Type} (width : Nat) (f : α → List Byte) : Option α → List Byte
  | some a => 1 :: f a
  | none => 0 :: List.replicate width 0

/-- A list: a 2-byte count, then its entries (R185). A set, for which R185 and R186 give no form, is sent so too, its
numbers rising and of one byte each: DESIGN CHOICE (log 16). -/
def listOf {α : Type} (f : α → List Byte) (entries : List α) : List Byte :=
  bytesOf 2 entries.length ++ entries.flatMap f

/-- A name or text: a count byte, then its codes (R185). -/
def textOf (codes : List Nat) : List Byte := bytesOf 1 codes.length ++ codes.flatMap (bytesOf 1)

/-- The check byte that makes the sum 0 modulo 256 (R185). -/
def checkOf (bs : List Byte) : Byte := 0 - bs.foldl (· + ·) 0

/-- The sum of every byte is 0 modulo 256 (R185). -/
def sumsToZero (bs : List Byte) : Bool := bs.foldl (· + ·) 0 == 0

/-! ## Codes -/

/-- The code of a status (R186). -/
def Status.code : Status → Nat
  | .ok => 0
  | .noSuch => 1
  | .exists_ => 2
  | .inUse => 3
  | .locked => 4
  | .busy => 5
  | .full => 6
  | .badField => 7
  | .badFrame => 8
  | .late => 9
  | .duplicate => 10

/-- The code of a unit state (R186). -/
def UnitState.code : UnitState → Nat
  | .skip => 0
  | .pending => 1
  | .claimed _ => 2
  | .bonded => 3
  | .fault => 4
  | .rework => 5
  | .reject => 6

/-- The code of a fault kind (R186). -/
def FaultKind.code : FaultKind → Nat
  | .padMiss => 1
  | .leadMiss => 2
  | .spark => 3
  | .abort => 4
  | .timeout => 5
  | .drive => 6
  | .removed => 7

/-- The code of a pull part (R186). -/
def PullPart.code : PullPart → Nat
  | .ticketed .pending _ => 1
  | .ticketed .done _ => 2
  | .ticketed .expired _ => 3
  | .ticketed .withdrawn _ => 4
  | .missed => 5

/-- The unit map entry, 11 bytes (R186). -/
def UnitEntry.bytes (u : UnitEntry) : List Byte :=
  let head := match u.state with | .claimed h => headNumber h | _ => 0
  let first := u.state.code + 8 * head + (if u.fault.isSome then 32 else 0) + (if u.pull.isSome then 64 else 0)
  let ticket := match u.pull with | some (.ticketed _ n) => n | _ => 0
  bytesOf 1 first ++ bytesOf 2 u.wiresDone ++ bytesOf 2 (u.fault.elim 0 FaultPart.wire) ++
    bytesOf 1 (u.fault.elim 0 fun f => f.kind.code) ++ bytesOf 1 (u.pull.elim 0 PullPart.code) ++ bytesOf 4 ticket

/-- A location with its slot. -/
def Location.bytes : Location → List Byte
  | .preheat => [1]
  | .window => [2]
  | .exit => [3]
  | .output slot => 4 :: bytesOf 1 slot
  | .departed => [5]

/-- An order: its code on the track link (R188), then its slot or column count where it has one (R185); a TRANSFER keeps
its zone (log 16). -/
def Order.bytes : Order → List Byte
  | .scan => [1]
  | .elevate slot => 2 :: bytesOf 1 slot
  | .push _ => [3]
  | .transferPreheat => [4, 1]
  | .transferWindow => [4, 2]
  | .index n => 5 :: bytesOf 1 n

/-- A hold reason. -/
def HoldReason.code : HoldReason → Nat
  | .jam => 1
  | .magazineLost => 2
  | .inputEmpty => 3
  | .outputFull => 4
  | .tableFull => 5

/-- The context of a group: its state with its order or reason, and its jammed order. -/
def GroupContext.bytes (g : GroupContext) : List Byte :=
  (match g.state with
    | .idle => [1]
    | .busy o => 2 :: o.bytes
    | .held r => 3 :: bytesOf 1 r.code) ++
  optionalPart 1 Order.bytes g.jammed

/-- The soak time remaining, in 4 bytes (R28); 0 once it has elapsed (R32). An idle timer has none, and 0 stands for it:
DESIGN CHOICE (log 16). -/
def Soak.bytes : Soak → List Byte
  | .running ms => bytesOf 4 ms
  | .elapsed | .idle => bytesOf 4 0

/-- The code of a direction. -/
def Direction.code : Direction → Nat
  | .bottomUp => 1
  | .topDown => 2

/-- The code of a profile (R188). -/
def Profile.code : Profile → Nat
  | .low => 1
  | .standard => 2
  | .square => 3

/-- The window state with its columns. -/
def WindowState.bytes : WindowState → List Byte
  | .closed => [1]
  | .indexing => [2]
  | .opened a b => 3 :: (bytesOf 1 a ++ bytesOf 1 b)

/-- The code of a head state. -/
def HeadState.code : HeadState → Nat
  | .off => 1
  | .idle => 2
  | .bonding => 3
  | .holding => 4
  | .stalled _ => 5
  | .aborting _ => 6
  | .held _ => 7
  | .faulted _ => 8

/-- The code of a reason or cause, in the order of the table of R79 (log 16). -/
def HeadState.reason : HeadState → Option Nat
  | .stalled .index => some 1
  | .stalled .noUnit => some 2
  | .stalled .cls => some 3
  | .stalled .heater => some 4
  | .aborting .timeout => some 5
  | .aborting .abort => some 6
  | .held .request => some 7
  | .held .miss => some 8
  | .held .missRun => some 9
  | .held .spark => some 10
  | .held .capillary => some 11
  | .held .classLapsed => some 12
  | .held .timeout => some 13
  | .held .aborted => some 14
  | .faulted (.drive _) => some 15
  | .faulted .unresponsive => some 16
  | _ => none

/-- The parameter of a reason: the drive fault code of DRIVE; the others carry none (R185). -/
def HeadState.reasonParameter : HeadState → List Byte
  | .faulted (.drive code) => bytesOf 1 code
  | _ => []

/-- The code of a step, in the order of R84. -/
def Step.code : Step → Nat
  | .openSpark => 1
  | .seekFirst => 2
  | .firstBond _ => 3
  | .looping => 4
  | .secondBond _ => 5
  | .tail => 6
  | .bumpSpark => 7
  | .bumpSeek => 8
  | .bump _ => 9
  | .bumpTail => 10
  | .endSpark => 11

/-- The code of a class state. -/
def ClassState.code : ClassState → Nat
  | .proving => 1
  | .qualified => 2
  | .watch => 3
  | .lapsed _ => 4

/-- The code of a lapse reason, in LAPSED only. -/
def ClassState.lapse : ClassState → Option Nat
  | .lapsed .lowResult => some 1
  | .lapsed .lowAverage => some 2
  | .lapsed .overdue => some 3
  | .lapsed .repeatLow => some 4
  | _ => none

/-- The code of a bond kind. -/
def BondKind.code : BondKind → Nat
  | .first => 1
  | .second => 2
  | .bump => 3

/-- The code of a sample kind. -/
def SampleKind.code : SampleKind → Nat
  | .plan => 1
  | .oneShot => 2
  | .proving => 3

/-- The action code of an operator action (R185). -/
def TouchAction.code : TouchAction → Nat
  | .rejectUnit => 2
  | .unrejectUnit => 3
  | .hold => 10
  | .resume => 11
  | .abort => 12
  | .requalify => 15

/-- The code of a view. -/
def View.code : View → Nat
  | .active => 0
  | .staged => 1

/-! ## Records -/

/-- The strip record (R17, R186). -/
def Strip.bytes (r : Strip) : List Byte :=
  bytesOf 4 r.id ++ bytesOf 4 r.lot ++ bytesOf 1 r.slot ++ bytesOf 1 r.program ++ optional 2 r.generation ++
    r.location.bytes ++ marker r.inMotion ++ bytesOf 1 r.nextColumn ++ bytesOf 1 r.columns ++ bytesOf 1 r.rows ++
    [r.counts.skip, r.counts.pending, r.counts.claimed, r.counts.bonded, r.counts.fault, r.counts.rework,
      r.counts.reject].flatMap (bytesOf 2) ++
    r.units.flatMap UnitEntry.bytes

/-- An input slot record (R27). -/
def InSlot.bytes (q : InSlot) : List Byte :=
  let code : Nat := match q.state with | .unknown => 1 | .empty => 2 | .loaded => 3 | .taken => 4 | .jammed => 5
  bytesOf 1 code ++
    optionalPart 2 (listOf fun p : Pos => bytesOf 1 p.column ++ bytesOf 1 p.row) q.map ++ optional 4 q.tag

/-- An output slot record: FILLED carries its strip id as the parameter of the state (R185), with no presence byte. R24
lists "state and, when FILLED, strip id" and does not say whether that is an optional part: DESIGN CHOICE (log 16). -/
def OutSlot.bytes : OutSlot → List Byte
  | .unknown => [1]
  | .empty => [2]
  | .filled id => 3 :: bytesOf 4 id

/-- A selection filter. -/
def Filter.bytes (f : Filter) : List Byte := bytesOf 2 f.value ++ bytesOf 2 f.mask ++ marker f.enabled

/-- The plan and the filters of a copy. -/
def ProgramCopy.samplingBytes (c : ProgramCopy) : List Byte :=
  bytesOf 2 c.plan.period ++ bytesOf 2 c.plan.offset ++ bytesOf 2 c.plan.run ++
    [c.filter1, c.filter2, c.filter3, c.filter4].flatMap Filter.bytes

/-- The name, grid, pitches and soak time of a copy. -/
def ProgramCopy.shapeBytes (c : ProgramCopy) : List Byte :=
  textOf c.name ++ bytesOf 1 c.columns ++ bytesOf 1 c.rows ++ bytesOf 2 c.pitchX ++ bytesOf 2 c.pitchY ++
    bytesOf 1 c.soak

/-- A staged copy as a LOOK of PROGRAM returns it: its record with its wire count (R60). -/
def ProgramCopy.stagedBytes (c : ProgramCopy) : List Byte :=
  c.shapeBytes ++ bytesOf 2 c.wires.length ++ listOf (bytesOf 1) c.classesUsed ++ c.samplingBytes

/-- What a LOOK of PROGRAM returns (R60). The staged record is an optional part of its own besides the staged-copy flag,
a presence byte and zeros when it is absent, and the set of the classes used is sent as a list is: DESIGN CHOICE
(log 16). -/
def ProgramView.bytes (v : ProgramView) : List Byte :=
  let p := v.program
  let q := v.sampling.getD { program := p.id, sequence := 0, armed := false, emptySelections := 0, missedSamples := 0 }
  bytesOf 1 p.id ++ p.active.shapeBytes ++ bytesOf 2 p.active.wires.length ++ bytesOf 2 p.generation ++
    marker p.staged.isSome ++ listOf (bytesOf 1) p.active.classesUsed ++ p.active.samplingBytes ++
    optionalPart 38 ProgramCopy.stagedBytes p.staged ++ bytesOf 2 v.memoryFree ++ bytesOf 4 q.sequence ++
    bytesOf 1 (if q.armed then 1 else 2) ++ bytesOf 2 q.emptySelections ++ bytesOf 2 q.missedSamples

/-- A bond set, 5 bytes (R186). -/
def BondSet.bytes (b : BondSet) : List Byte := bytesOf 2 b.power ++ bytesOf 1 b.force ++ bytesOf 2 b.time

/-- A point, 6 bytes (R186). -/
def Point.bytes (p : Point) : List Byte := bytesOf 2 p.x ++ bytesOf 2 p.y ++ bytesOf 2 p.z

/-- The wire record body, 34 bytes (R186). -/
def wireBytes (index : Nat) (w : Wire) : List Byte :=
  bytesOf 2 index ++ bytesOf 1 w.cls ++ Point.bytes w.first ++ Point.bytes w.second ++ bytesOf 1 w.loop ++
    BondSet.bytes w.firstBond ++ BondSet.bytes w.secondBond ++ bytesOf 2 w.tail ++ optionalPart 5 BondSet.bytes w.bump

/-- A loop shape (R59). -/
def LoopShape.bytes (l : LoopShape) : List Byte :=
  bytesOf 2 l.height ++ bytesOf 2 l.reverse ++ bytesOf 2 l.kink ++ bytesOf 1 l.profile.code

/-- A class record (R117, R118). -/
def WireClass.bytes (c : WireClass) : List Byte :=
  let t := c.settings
  bytesOf 2 t.pMin ++ bytesOf 2 t.pMax ++ bytesOf 1 t.fMin ++ bytesOf 1 t.fMax ++ signedBytes 1 t.trim ++
    bytesOf 1 t.trimStep ++ bytesOf 1 (match t.missPolicy with | .stop => 1 | .continue_ => 2) ++ bytesOf 2 t.pullMin ++
    bytesOf 2 t.watchLevel ++ bytesOf 1 t.shift ++ bytesOf 1 t.bandWidth ++ bytesOf 1 t.provingUnits ++
    bytesOf 1 t.resultsRequired ++ bytesOf 1 t.recovery ++
    bytesOf 1 c.state.code ++ optional 1 c.state.lapse ++ optional 2 c.ewma ++ bytesOf 1 c.budget ++
    bytesOf 2 c.resultsSince ++ bytesOf 1 c.lows ++ bytesOf 1 c.goods ++ optional 2 c.least ++ optional 2 c.greatest ++
    c.stats.bands.flatMap (bytesOf 2) ++
    [c.stats.ballLift, c.stats.neck, c.stats.span, c.stats.heel, c.stats.stitchLift, c.stats.belowMin,
      c.stats.results].flatMap (bytesOf 2) ++ bytesOf 4 c.lifetime

/-- A ticket (R142). -/
def Ticket.bytes (t : Ticket) : List Byte :=
  bytesOf 4 t.number ++ bytesOf 4 t.strip ++ bytesOf 1 t.column ++ bytesOf 1 t.row ++ bytesOf 1 t.program ++
    bytesOf 2 t.generation ++ bytesOf 1 t.kind.code ++
    listOf (fun w => bytesOf 2 w.wire ++ bytesOf 1 w.cls ++ marker w.reported) t.wires ++ bytesOf 2 t.serial ++
    bytesOf 4 t.count ++ bytesOf 1 (headNumber t.head) ++ bytesOf 1 t.remaining

/-- The ticket summary (R151). -/
def TicketSummary.bytes (v : TicketSummary) : List Byte :=
  bytesOf 1 v.pending ++ bytesOf 4 v.next ++ bytesOf 1 v.dueCount ++
    [v.counts.late, v.counts.noSuchWire, v.counts.duplicates, v.counts.badFields, v.counts.badFrames,
      v.counts.overScale].flatMap (bytesOf 2)

/-- A claim context (R78). The set of proving classes is sent as a list is: DESIGN CHOICE (log 16). -/
def Claim.bytes (c : Claim) : List Byte :=
  bytesOf 4 c.strip ++ bytesOf 1 c.column ++ bytesOf 1 c.row ++ bytesOf 2 c.wireCount ++ bytesOf 2 c.wire ++
    marker c.touched ++ listOf (bytesOf 1) c.proving

/-- A resume point (R78). -/
def ResumePoint.bytes (p : ResumePoint) : List Byte :=
  bytesOf 2 p.wire ++ bytesOf 1 (match p.entry with | .start => 1 | .bump => 2)

/-- The nine statistics in the order of R102. -/
def HeadStats.list (t : HeadStats) : List Nat :=
  [t.wiresBonded, t.unitsBonded, t.padMisses, t.leadMisses, t.sparkRetries, t.sparkFailures, t.timeouts, t.clamped,
    t.strays]

/-- A head record in the order of R78. -/
def Head.bytes (h : Head) : List Byte :=
  bytesOf 1 h.state.code ++ optional 1 (h.step.map Step.code) ++
    optionalPart 1 (fun code => bytesOf 1 code ++ h.state.reasonParameter) h.state.reason ++
    optionalPart 13 Claim.bytes h.claim ++ optionalPart 3 ResumePoint.bytes h.resume ++ bytesOf 2 h.sparkWire ++
    bytesOf 1 h.sparkTry ++ bytesOf 1 (if h.ball then 1 else 2) ++ bytesOf 1 h.faultRun ++
    bytesOf 2 h.positionTimeout ++ bytesOf 1 h.bondTimeout ++ bytesOf 1 h.sparkTimeout ++
    bytesOf 1 Config.stopTimeout ++ bytesOf 1 h.sparkCurrent ++ bytesOf 2 h.sparkTime ++
    bytesOf 2 h.capillary.serial ++ bytesOf 4 h.capillary.life ++ bytesOf 4 h.capillary.count ++
    bytesOf 4 h.capillary.interval ++ bytesOf 1 h.capillary.wearCap ++ bytesOf 1 h.capillary.kP ++
    bytesOf 1 h.capillary.kF ++ bytesOf 6 h.lifetime ++ h.stats.list.flatMap (bytesOf 2) ++ bytesOf 1 h.latched

/-- A last computation record in the order of R113. -/
def Computation.bytes (k : Computation) : List Byte :=
  bytesOf 1 k.kind.code ++ bytesOf 2 k.wire ++ bytesOf 4 k.strip ++ bytesOf 1 k.column ++ bytesOf 1 k.row ++
    bytesOf 1 k.w ++ signedBytes 1 k.d ++ bytesOf 2 k.p1 ++ bytesOf 2 k.p2 ++ signedBytes 2 k.p3 ++
    bytesOf 2 k.power ++ bytesOf 2 k.f1 ++ bytesOf 1 k.force ++ bytesOf 2 k.time ++ marker k.clamp ++
    marker k.excursion

/-- A last reading: TEMPERATURE 1 with its value; SENSOR_FAULT 2, which carries none (R185, R188). -/
def Reading.bytes : Reading → List Byte
  | .temperature v => 1 :: bytesOf 2 v
  | .sensorFault => [2]

/-- The gate with its cause (R107). -/
def Gate.bytes : Gate → List Byte
  | .pass => [1]
  | .fail .absent => [2, 1]
  | .fail .stale => [2, 2]
  | .fail .sensorFault => [2, 3]
  | .fail .low => [2, 4]
  | .fail .high => [2, 5]

/-- The heater reading record with the heater settings (R104, R115). -/
def HeaterView.bytes (v : HeaterView) : List Byte :=
  let h := v.heater
  optionalPart 1 Reading.bytes h.last ++ optional 2 h.lastTemperature ++ optional 2 h.age ++
    bytesOf 1 (if h.fresh then 1 else 2) ++ h.gate.bytes ++
    [h.readings, h.sensorFaults, h.staleExpiries, h.excursions, h.discarded].flatMap (bytesOf 2) ++
    optionalPart 26 Computation.bytes h.computation1 ++ optionalPart 26 Computation.bytes h.computation2 ++
    bytesOf 2 v.setPoint ++ bytesOf 1 v.window ++ bytesOf 1 v.gain

/-- A panel record with its canvas-cleared flag (R154, R185). The flag is sent as it stands for a panel of any
kind, with no presence byte: DESIGN CHOICE (log 16). -/
def panelBytes (p : Panel) (canvasCleared : Bool) : List Byte :=
  let b := bodyOf p
  bytesOf 1 p.number ++ bytesOf 1 b.kind ++ bytesOf 2 p.x ++ bytesOf 2 p.y ++ bytesOf 2 p.width ++
    bytesOf 2 p.height ++ bytesOf 1 b.binding.form ++ bytesOf 4 b.binding.value ++ bytesOf 1 p.background ++
    bytesOf 1 p.foreground ++ marker p.blink ++ bytesOf 1 p.period ++ marker p.visible ++ textOf p.text ++
    marker canvasCleared

/-- The engine summary (R155). The stale set is sent as a list is: DESIGN CHOICE (log 16). -/
def EngineView.bytes (v : EngineView) : List Byte :=
  listOf (bytesOf 1) v.stale ++ bytesOf 1 v.queued ++
    optionalPart 2 (fun o : Bool × Nat => bytesOf 1 (if o.1 then 2 else 1) ++ bytesOf 1 o.2) v.operation ++
    [v.renders, v.executed, v.dropped].flatMap (bytesOf 2)

/-- The colour map record (R153). -/
def colourBytes (palette : List Nat) (m : ColourMap) : List Byte :=
  palette.flatMap (bytesOf 2) ++
    [m.skip, m.pending, m.claimed, m.bonded, m.fault, m.rework, m.reject, m.pullPending, m.pullDone].flatMap (bytesOf 1)

/-- The backlight record with what the Touch Interface adds (R167, R180). -/
def BacklightView.bytes (v : BacklightView) : List Byte :=
  bytesOf 1 v.backlight.level ++ marker v.backlight.off ++ bytesOf 1 v.backlight.dimLevel ++
    bytesOf 2 v.backlight.dimTime ++ bytesOf 1 (if v.dimmed then 2 else 1) ++ bytesOf 1 v.level ++
    bytesOf 4 v.sincePress

/-- The latest-touch record and the states beside it (R172). The pressed state is sent as a marker byte, where R185 has a
state a code from 1 and lists no values of it: DESIGN CHOICE (log 16). -/
def Touch.bytes (t : Touch) : List Byte :=
  optionalPart 5 (fun p : TouchPart => bytesOf 1 p.panel ++ bytesOf 2 p.x ++ bytesOf 2 p.y) t.latest ++
    optionalPart 3 (fun r : Refused => bytesOf 1 r.panel ++ bytesOf 1 r.action.code ++ bytesOf 1 r.status.code)
      t.refused ++
    bytesOf 2 t.presses ++ bytesOf 2 t.refusals ++ marker t.pressed ++ bytesOf 1 (if t.supervisor then 2 else 1) ++
    bytesOf 1 (if t.dimmed then 2 else 1)

/-- The attention flags, mask and line (R183, R186). -/
def AttentionView.bytes (v : AttentionView) : List Byte :=
  bytesOf 2 v.flags.toNat ++ bytesOf 2 v.mask.toNat ++ marker v.line

/-- The code of a link state in the link status byte (R185). -/
def LinkState.code : LinkState → Nat
  | .idle => 0
  | .processing => 1
  | .answered => 2

/-- The LINK record (R184). -/
def LinkView.bytes (v : LinkView) : List Byte :=
  bytesOf 1 (v.state.code + 1) ++ marker v.overrun ++ bytesOf 1 v.lastTag ++
    [v.counts.requests, v.counts.badFrames, v.counts.overruns, v.counts.discarded, v.counts.emptyReads,
      v.counts.ignored].flatMap (bytesOf 2)

/-- The running state of the feed (R28). The presence states are sent as marker bytes, where R185 has a state a code from 1
and lists no values of them: DESIGN CHOICE (log 16). -/
def FeedView.bytes (v : FeedView) : List Byte :=
  v.input.bytes ++ v.track.bytes ++ v.output.bytes ++ marker v.inPresent ++ marker v.outPresent ++
    marker v.inScanDue ++ marker v.outScanDue ++ optional 4 v.preheat ++ optional 4 v.window ++ optional 4 v.exit ++
    v.soak.bytes ++ optional 1 v.inTarget ++ optional 1 v.outTarget

/-- The CELL record in the order of R180, with the running state of R28 and R61. -/
def CellView.bytes (v : CellView) : List Byte :=
  let c := v.cell
  bytesOf 1 v.program ++ bytesOf 4 v.lot ++ bytesOf 1 v.inCount ++ bytesOf 1 v.outCount ++
    bytesOf 1 c.inDirection.code ++ bytesOf 1 c.outDirection.code ++ bytesOf 2 c.elevate ++ bytesOf 2 c.push ++
    bytesOf 2 c.transfer ++ bytesOf 2 c.index ++ bytesOf 1 (if v.run then 1 else 2) ++ bytesOf 1 c.width ++
    bytesOf 1 c.clearance ++ bytesOf 1 c.missRun ++ bytesOf 1 c.dueCount ++ bytesOf 2 c.setPoint ++
    bytesOf 1 c.window ++ bytesOf 1 c.gain ++ v.feed.bytes ++ v.arbiter.window.bytes ++
    bytesOf 1 v.arbiter.clearance ++ bytesOf 1 (headNumber v.arbiter.first)

/-- A key as wide as a key of its table (R185). -/
def keyBytes : TableKey → List Byte
  | .strip id => bytesOf 4 id
  | .ticket n => bytesOf 4 n
  | .wire program index view => bytesOf 1 program ++ bytesOf 2 index ++ bytesOf 1 (View.code view)
  | .panel number view => bytesOf 1 number ++ bytesOf 1 (View.code view)
  | .cell k | .inslot k | .outslot k | .program k | .loop k | .cls k | .head k | .heater k | .colourMap k
  | .backlight k | .touch k | .attention k | .link k => bytesOf 1 k

/-- The body of a response (R186). -/
def Body.bytes : Body → List Byte
  | .none => []
  | .keys ks => bytesOf 1 ks.length ++ ks.flatMap keyBytes
  | .cell v => v.bytes
  | .strip r => r.bytes
  | .inslot _ r => r.bytes
  | .outslot _ r => r.bytes
  | .program v => v.bytes
  | .wire index w => wireBytes index w
  | .loop _ r => r.bytes
  | .cls c => c.bytes
  | .ticket t => t.bytes
  | .ticketSummary v => v.bytes
  | .head _ h => h.bytes
  | .heater v => v.bytes
  | .panel p canvasCleared => panelBytes p canvasCleared
  | .engine v => v.bytes
  | .colourMap palette m => colourBytes palette m
  | .backlight v => v.bytes
  | .touch t => t.bytes
  | .attention v => v.bytes
  | .link v => v.bytes
  | .discarded n => bytesOf 1 n

/-! ## Responses -/

/-- A response as a READ shifts it out (R186). -/
def Response.bytes (r : Response) : List Byte :=
  let body := r.answer.body.bytes
  let marks := (if r.overrun then 1 else 0) + (if r.answer.more then 2 else 0) + (if r.answer.overScale then 4 else 0)
  let head : List Byte := 0xC3 :: (bytesOf 2 (11 + body.length) ++ bytesOf 1 r.answer.status.code ++ bytesOf 1 marks ++
    bytesOf 1 r.tag ++ bytesOf 1 r.kind ++ bytesOf 1 r.code ++ bytesOf 2 r.flags.toNat ++ body)
  head ++ [checkOf head]

/-- The link state of R175, from the two slots. -/
def Link.state (l : Link) : LinkState :=
  match l.request, l.response with
  | some _, _ => .processing
  | none, some _ => .answered
  | none, none => .idle

/-- READY is high in ANSWERED (R175). -/
def State.ready (s : State) : Bool := s.link.state == .answered

/-- The link status byte (R185). -/
def State.statusByte (s : State) : Byte :=
  BitVec.ofNat 8 (s.link.state.code + (if s.attentionLine then 4 else 0))

/-- The three types of a transaction of the record link (R174). -/
inductive TransactionType
  | request | read | unknown
deriving DecidableEq, Repr

/-- The type of a transaction by its first byte: 5Ah REQUEST, A5h READ, any other byte unknown (R185). -/
def transactionType (first : Byte) : TransactionType :=
  if first = 0x5A then .request else if first = 0xA5 then .read else .unknown

/-! ## Frames of the machinery links (R188) -/

/-- A frame of a machinery link with a code and a body. -/
def machineFrame (code : Nat) (body : List Byte) : List Byte :=
  let head : List Byte := 0x7E :: (bytesOf 1 (4 + body.length) ++ bytesOf 1 code ++ body)
  head ++ [checkOf head]

/-- The frame of an order on a head link (R188). -/
def HeadOrder.frame : HeadOrder → List Byte
  | .position p => machineFrame 0x01 (Point.bytes p)
  | .firstBond p f t => machineFrame 0x02 (bytesOf 2 p ++ bytesOf 1 f ++ bytesOf 2 t)
  | .loop l p => machineFrame 0x03 (l.bytes ++ Point.bytes p)
  | .secondBond p f t => machineFrame 0x04 (bytesOf 2 p ++ bytesOf 1 f ++ bytesOf 2 t)
  | .tail n => machineFrame 0x05 (bytesOf 2 n)
  | .bump p f t => machineFrame 0x06 (bytesOf 2 p ++ bytesOf 1 f ++ bytesOf 2 t)
  | .spark c t => machineFrame 0x07 (bytesOf 1 c ++ bytesOf 2 t)
  | .stop => machineFrame 0x08 []

/-- The code of a group (R188). -/
def groupCode : Group → Nat
  | .input => 1
  | .track => 2
  | .output => 3

/-- The frame of an order on the track link (R188). -/
def Order.frame (g : Group) : Order → List Byte
  | .scan => machineFrame 0x01 (bytesOf 1 (groupCode g))
  | .elevate slot => machineFrame 0x02 (bytesOf 1 (groupCode g) ++ bytesOf 1 slot)
  | .push _ => machineFrame 0x03 (bytesOf 1 (groupCode g))
  | .transferPreheat => machineFrame 0x04 (bytesOf 1 (groupCode g) ++ [1])
  | .transferWindow => machineFrame 0x04 (bytesOf 1 (groupCode g) ++ [2])
  | .index n => machineFrame 0x05 (bytesOf 1 (groupCode g) ++ bytesOf 1 n)

/-- The verdict byte of a result (R187). -/
def Verdict.byte : Verdict → Byte
  | .accepted overScale => if overScale then 0x80 else 0x00
  | .late => 1
  | .noSuchWire => 2
  | .duplicate => 3
  | .badField => 4
  | .badFrame => 5

end Sys2Proof.Machine
end

