-- ==== Sys2Proof/Machine/Settle.lean ====
section
/-! DEFINITION. Acting on the announcements of a step: the arbiter's re-examination, the groups' moves, the Screen
Engine's choice (R8, R29, R69, R159; log 1), and the shares of several blocks in one action. -/

namespace Sys2Proof.Machine

/-- Acts on one announcement: the arbiter's first, then the groups' in the order TRACK, INPUT, OUTPUT (log 1). -/
def State.settleOne (s : State) : Option State :=
  if s.due.arbiter then some (State.reexamine { s with due := { s.due with arbiter := false } })
  else if s.due.track then some (State.examineTrack { s with due := { s.due with track := false } })
  else if s.due.input then some (State.examineInput { s with due := { s.due with input := false } })
  else if s.due.output then some (State.examineOutput { s with due := { s.due with output := false } })
  else none

/-- Acts on announcements until none waits; the fuel bounds their number. -/
def State.settleFor : Nat → State → State
  | 0, s => s
  | fuel + 1, s =>
    match s.settleOne with
    | none => s
    | some s => State.settleFor fuel s

/-- The bound: a re-examination that grants takes a PENDING unit, and each is followed by one test of the window. -/
def State.settleBound (s : State) : Nat :=
  16 + 4 * ((s.feed.window.bind s.strip).elim 0 fun r => r.units.length)

/-- The Screen Engine's choice, when it has one to make (R159; log 10). -/
def State.settleEngine (s : State) : State :=
  if s.due.engine then State.chooseOperation { s with due := { s.due with engine := false } } else s

/-- Acts on every announcement of a step. -/
def State.settle (s : State) : State := (State.settleFor s.settleBound s).settleEngine

/-! ## The CELL record (R180) -/

/-- A field of the Strip Map Store lies in its range; the current program names a program or none (R3). -/
def State.judgeStripField (s : State) : CellStripField → Status
  | .currentProgram n =>
    if 16 < n then .badField else if n = 0 ∨ (s.program n).isSome then .ok else .noSuch
  | .currentLot _ => .ok

/-- A field of the Strip Map Store written; a change of the current program has the push-in examined (R3, R29, R30). An
AMEND that names the program that is current already counts as a change: DESIGN CHOICE (log 37). -/
def State.writeStripField (s : State) : CellStripField → State
  | .currentProgram n => State.dueInput { s with store := { s.store with program := n } }
  | .currentLot n => { s with store := { s.store with lot := n } }

/-- AMEND of CELL judged by the Strip Map Store (R3). -/
def State.amendCellStrip (s : State) (fs : List CellStripField) : Status × State :=
  match (fs.map s.judgeStripField).find? (· != .ok) with
  | some st => (st, s)
  | none => (.ok, fs.foldl State.writeStripField s)

/-- A field of the Claim Arbiter lies in its range (R63). -/
def CellWindowField.ok : CellWindowField → Bool
  | .width n => inRange 1 8 n
  | .clearance n => inRange 0 3 n

/-- A field of the Claim Arbiter written. -/
def CellWindowField.write (c : Cell) : CellWindowField → Cell
  | .width n => { c with width := n }
  | .clearance n => { c with clearance := n }

/-- AMEND of CELL judged by the Claim Arbiter (R63). -/
def State.amendCellWindow (s : State) (fs : List CellWindowField) : Status × State :=
  if fs.all CellWindowField.ok then (.ok, { s with cell := fs.foldl CellWindowField.write s.cell }) else (.badField, s)

/-- AMEND of CELL that sets the miss run limit (R90). -/
def State.amendCellMissRun (s : State) (n : Nat) : Status × State :=
  if inRange 1 9 n then (.ok, { s with cell := { s.cell with missRun := n } }) else (.badField, s)

/-- AMEND of CELL that sets the due count (R142). -/
def State.amendCellDueCount (s : State) (n : Nat) : Status × State :=
  if inRange 1 16 n then (.ok, { s with cell := { s.cell with dueCount := n } }) else (.badField, s)

/-- A heater setting lies in its range (R108). -/
def CellHeaterField.ok : CellHeaterField → Bool
  | .setPoint n => inRange 0 1000 n
  | .window n => inRange 1 40 n
  | .gain n => inRange 0 64 n

/-- A heater setting written. -/
def CellHeaterField.write (c : Cell) : CellHeaterField → Cell
  | .setPoint n => { c with setPoint := n }
  | .window n => { c with window := n }
  | .gain n => { c with gain := n }

/-- The setting acts on the gate. -/
def CellHeaterField.actsOnGate : CellHeaterField → Bool
  | .gain _ => false
  | _ => true

/-- AMEND of CELL judged by the Bond Settings Unit (R108). -/
def State.amendCellHeater (s : State) (fs : List CellHeaterField) : Status × State :=
  if !fs.all CellHeaterField.ok then (.badField, s)
  else
    let s := { s with cell := fs.foldl CellHeaterField.write s.cell }
    (.ok, if fs.any CellHeaterField.actsOnGate then s.judgeGate else s)

/-! ## The heater port (R105, R106) -/

/-- READING: an unreadable frame changes its count alone; any other updates the record, and the gate is judged. -/
def State.takeReading (s : State) (f : HeaterFrame) : State :=
  let s := { s with heater := s.heater.receive f }
  match f with
  | .unreadable => s
  | _ => s.judgeGate

/-- Expiry of the freshness timer; nothing when it is stopped (log 3). -/
def State.freshnessExpiry (s : State) : State :=
  match s.heater.freshTimer with
  | some _ => State.judgeGate { s with heater := s.heater.expire }
  | none => s

/-! ## The pull gauge port (R145, R187) -/

/-- Sends a verdict byte. -/
def State.verdict (s : State) (v : Verdict) : State := s.sendVerdict v.byte

/-- An unreadable frame: BAD_FRAME, counted (R145). -/
def State.badGaugeFrame (s : State) : State :=
  (s.onResults fun c => { c with badFrames := count16 c.badFrames }).verdict .badFrame

/-- A whole frame of the gauge: judged when its sum is 0 (R145, R146, R187). -/
def State.gaugeFrame (s : State) (bs : List Byte) : State :=
  if sumsToZero bs then
    let (v, s) := s.judgeResult (numberOf ((bs.drop 1).take 4)) (numberOf ((bs.drop 5).take 2))
      (numberOf ((bs.drop 7).take 2)) (numberOf ((bs.drop 9).take 1))
    s.verdict v
  else s.badGaugeFrame

/-- One byte of the gauge port: discarded outside a frame unless it is 55h; the eleventh completes the frame (R187). -/
def State.gaugeByte (s : State) (b : Byte) : State :=
  match s.gauge.bytes with
  | [] =>
    if b = 0x55 then { s with gauge := { bytes := [b], limit := some Config.gaugeLimit } } else s
  | bs =>
    if 10 ≤ bs.length then State.gaugeFrame { s with gauge := { bytes := [], limit := none } } (bs ++ [b])
    else { s with gauge := { s.gauge with bytes := bs ++ [b] } }

/-- RESULT_FRAME: the bytes arrive one after another. -/
def State.gaugeBytes (s : State) (bs : List Byte) : State := bs.foldl State.gaugeByte s

/-- The limit of the frame in progress expires; nothing when none is (R187, log 3). -/
def State.gaugeExpiry (s : State) : State :=
  match s.gauge.bytes with
  | [] => s
  | _ => State.badGaugeFrame { s with gauge := { bytes := [], limit := none } }

/-! ## Cell reset (R182) -/

/-- The Store's share for the unit a head holds: a claim end with kind ABORT (R12, R19). -/
def State.cellResetUnit (s : State) (h : HeadId) : State :=
  match (s.head h).claim with
  | some c => (s.reportClaimEnd h c.strip c.column c.row c.wire .abort c.touched).2
  | none => s

/-- The Bond Settings Unit's share: the freshness is STALE, its timer stops, the gate is judged (R104, R107). -/
def State.cellResetHeater (s : State) : State :=
  State.judgeGate { s with heater := { s.heater with fresh := false, freshTimer := none } }

/-- ACT CELL_RESET: the attention flags are cleared, then every block applies its rule (R182; log 23). -/
def State.cellReset (s : State) : State :=
  let s := s.lower 0x3FF
  let s := (s.cellResetUnit .one).cellResetUnit .two
  let s := s.cellResetFeed
  let s := (s.cellResetHead .one).cellResetHead .two
  (s.cellResetHeater).cellResetScreen

end Sys2Proof.Machine
end

