-- ==== Sys2Proof/Machine/Tables.lean ====
section
/-! DEFINITION. Reading the seventeen tables: LOOK, LIST and TAKE, and the writes that are always refused
(R17, R60, R102, R115, R134, R151, R155, R172, R178 to R184). -/

namespace Sys2Proof.Machine

/-! ## Views -/

/-- The running state of the feed (R28). -/
def State.feedView (s : State) : FeedView :=
  { input := s.feed.input, track := s.feed.track, output := s.feed.output, inPresent := s.feed.inPresent,
    outPresent := s.feed.outPresent, inScanDue := s.feed.inScanDue, outScanDue := s.feed.outScanDue,
    preheat := s.feed.preheat, window := s.feed.window, exit := s.feed.exit, soak := s.feed.soak,
    inTarget := s.feed.inTarget, outTarget := s.feed.outTarget }

/-- The CELL record (R180). -/
def State.cellView (s : State) : CellView :=
  { program := s.store.program, lot := s.store.lot, inCount := s.feed.inSlots.length,
    outCount := s.feed.outSlots.length, run := s.feed.run, cell := s.cell, feed := s.feedView, arbiter := s.arbiter }

/-- The ticket summary (R151). -/
def State.ticketSummary (s : State) : TicketSummary :=
  { pending := s.quality.tickets.length, next := s.quality.nextTicket, dueCount := s.cell.dueCount,
    counts := s.quality.counts }

/-- The heater reading record with its settings (R115). -/
def State.heaterView (s : State) : HeaterView :=
  { heater := s.heater, setPoint := s.cell.setPoint, window := s.cell.window, gain := s.cell.gain }

/-- The engine summary (R155). -/
def State.engineView (s : State) : EngineView :=
  { stale := s.screen.stale, queued := s.screen.queue.length,
    operation := s.screen.operation.map fun o =>
      match o with
      | .render pic => (false, pic.panel.number)
      | .draw d _ => (true, d.panel),
    renders := s.screen.renders, executed := s.screen.drawsExecuted, dropped := s.screen.drawsDropped }

/-- The backlight record with what the Touch Interface adds: the dim state, and the time since the last press taken
(R167, R180). -/
def State.backlightView (s : State) : BacklightView :=
  { backlight := s.screen.backlight, dimmed := s.touch.dimmed, level := s.levelInForce,
    sincePress := s.touch.sincePress }

/-- The attention record (R183). -/
def State.attentionView (s : State) : AttentionView :=
  { flags := s.link.flags, mask := s.link.mask, line := s.attentionLine }

/-- The LINK record (R184). -/
def State.linkView (s : State) : LinkView :=
  { state := s.link.state, overrun := s.link.overrun, lastTag := s.link.lastTag, counts := s.link.counts }

/-! ## LOOK (R179) -/

/-- The record of a key in a table of the single key 0 (R179). -/
def singleRecord (key : Nat) (b : Body) : Option Body := if key = 0 then some b else none

/-- The body a LOOK returns; none when the key names no record. -/
def State.lookBody (s : State) : TableKey → Option Body
  | .cell k => singleRecord k (.cell s.cellView)
  | .strip id => (s.strip id).map .strip
  | .inslot n => (nth s.feed.inSlots n).map (.inslot n)
  | .outslot n => (nth s.feed.outSlots n).map (.outslot n)
  | .program id =>
    (s.program id).map fun p => .program { program := p, memoryFree := s.memoryFree, sampling := s.sampling id }
  | .wire p i v => (((s.program p).bind fun q => Program.view q v).bind fun c => nth c.wires i).map (.wire i)
  | .loop n => (nth s.loops n).map (.loop n)
  | .cls id => (s.cls id).map .cls
  | .ticket n => if n = 0 then some (.ticketSummary s.ticketSummary) else (s.ticket n).map .ticket
  | .head n => (headOfNumber n).map fun h => .head n (s.head h)
  | .heater k => singleRecord k (.heater s.heaterView)
  | .panel n v =>
    if n = 16 then some (.engine s.engineView)
    else
      match v with
      | .active => (s.panel n).map fun a => .panel a.panel a.canvasCleared
      | .staged => (findBy Panel.number n s.screen.staged).map fun p => .panel p false
  | .colourMap k => singleRecord k (.colourMap s.screen.palette s.screen.colours)
  | .backlight k => singleRecord k (.backlight s.backlightView)
  | .touch k => singleRecord k (.touch s.touch)
  | .attention k => singleRecord k (.attention s.attentionView)
  | .link k => singleRecord k (.link s.linkView)

/-- An answer with a body and no mark. -/
def answered (status : Status) (body : Body) : Answer := { status, body, more := false, overScale := false }

/-- An answer without a body. -/
def plain (status : Status) : Answer := answered status .none

/-- The answer to a LOOK. -/
def State.lookAnswer (s : State) (key : TableKey) : Answer :=
  match s.lookBody key with
  | some b => answered .ok b
  | none => plain .noSuch

/-! ## LIST (R179) -/

/-- The key of a table of the single key 0, listed from start key 0 alone (R179). -/
def singleKey (start : Nat) (key : TableKey) : List TableKey := if start = 0 then [key] else []

/-- The numbers of a list at or above a start, made keys. -/
def keysFrom (start : Nat) (numbers : List Nat) (key : Nat → TableKey) : List TableKey :=
  (numbers.filter (decide <| start ≤ ·)).map key

/-- The numbers 1 to n. -/
def upTo (n : Nat) : List Nat := (List.range n).map (· + 1)

/-- The keys present from a start key on, in ascending order (R179). -/
def State.listKeys (s : State) : TableKey → List TableKey
  | .cell k => singleKey k (.cell 0)
  | .strip id => keysFrom id (s.store.strips.map Strip.id) .strip
  | .inslot n => keysFrom n (upTo s.feed.inSlots.length) .inslot
  | .outslot n => keysFrom n (upTo s.feed.outSlots.length) .outslot
  | .program id => keysFrom id (s.programs.map Program.id) .program
  | .wire p i v =>
    keysFrom i (((s.program p).bind fun q => Program.view q v).elim [] fun c => upTo c.wires.length) fun n => .wire p n v
  | .loop n => keysFrom n (upTo s.loops.length) .loop
  | .cls id => keysFrom id (s.quality.classes.map WireClass.id) .cls
  | .ticket n => keysFrom n (s.quality.tickets.map Ticket.number) .ticket
  | .head n => keysFrom n [1, 2] .head
  | .heater k => singleKey k (.heater 0)
  | .panel n v =>
    keysFrom n
      (match v with
      | .active => s.screen.active.map fun a => a.panel.number
      | .staged => s.screen.staged.map Panel.number) fun k => .panel k v
  | .colourMap k => singleKey k (.colourMap 0)
  | .backlight k => singleKey k (.backlight 0)
  | .touch k => singleKey k (.touch 0)
  | .attention k => singleKey k (.attention 0)
  | .link k => singleKey k (.link 0)

/-- A panel number from 17 on, which no table holds (R155). -/
def panelBeyond : TableKey → Bool
  | .panel n _ => decide (16 < n)
  | _ => false

/-- The answer to a LIST: at most 32 keys, with the more mark; a panel number from 17 on is NO_SUCH (R155). R24 and R27
say of the slot tables, R1 of the strip table and R60 of LOOP that LIST returns the records or entries, R179 and R186
that a LIST body is keys: the keys, DESIGN CHOICE (log 14). -/
def State.listAnswer (s : State) (start : TableKey) : Answer :=
  let keys := s.listKeys start
  if panelBeyond start then plain .noSuch
  else
    { status := .ok, body := .keys (keys.take Config.maxKeys), more := decide (Config.maxKeys < keys.length),
      overScale := false }

/-! ## TAKE -/

/-- The sampling counts that TAKE of PROGRAM zeroes (R135). -/
def Sampling.taken (q : Sampling) : Sampling := { q with emptySelections := 0, missedSamples := 0 }

/-- The statistics of a class that TAKE zeroes (R134). -/
def ClassStats.taken : ClassStats :=
  { bands := List.replicate 8 0, ballLift := 0, neck := 0, span := 0, heel := 0, stitchLift := 0, belowMin := 0,
    results := 0 }

/-- The heater counts zeroed (R115). -/
def Heater.taken (h : Heater) : Heater :=
  { h with readings := 0, sensorFaults := 0, staleExpiries := 0, excursions := 0, discarded := 0 }

/-- What a TAKE changes after the record has been returned. -/
def State.takeEffect (s : State) : TableKey → State
  | .program id => s.onSampling id Sampling.taken
  | .head n =>
    match headOfNumber n with
    | some h => s.onHead h fun r => { r with stats := .zero, latched := 0 }
    | none => s
  | .heater _ => { s with heater := s.heater.taken }
  | .cls id => s.onClass id fun c => { c with stats := .taken }
  | .ticket n => if n = 0 then s.onResults fun _ => .zero else s
  | .panel n _ =>
    if n = 16 then { s with screen := { s.screen with renders := 0, drawsExecuted := 0, drawsDropped := 0 } }
    else s.onPanel n fun a => { a with canvasCleared := false }
  | .touch _ => { s with touch := { s.touch with presses := 0, refusals := 0, refused := none } }
  | .attention _ => s.lower s.link.flags
  | .link _ => { s with link := { s.link with counts := .zero } }
  | _ => s

/-- The tables whose chapters name no TAKE (R179). -/
def takeLocked : TableKey → Bool
  | .inslot _ | .outslot _ | .wire _ _ _ | .loop _ => true
  | _ => false

/-- TAKE: the record as LOOK returns it, then its effect (R179). -/
def State.takeKey (s : State) (key : TableKey) : Answer × State :=
  if takeLocked key then (plain .locked, s)
  else
    match s.lookBody key with
    | some b => (answered .ok b, s.takeEffect key)
    | none => (plain .noSuch, s)

/-! ## Writes that are always refused (R179) -/

/-- The status of a write of a kind its table never allows: LOCKED, but a panel number from 17 on is NO_SUCH (R155;
log 13). -/
def lockedStatus : LockedWrite → Status
  | .panelPut n | .panelAmend n | .panelRetire n => if 16 < n then .noSuch else .locked
  | _ => .locked

end Sys2Proof.Machine
end

