-- ==== Sys2Proof/Machine/Link.lean ====
section
/-! DEFINITION. The Link Interface: request and response slots, the transactions of the record link, attention requests
(R174 to R184). -/

namespace Sys2Proof.Machine

/-- Writes the link. -/
def State.onLink (s : State) (f : Link → Link) : State := { s with link := f s.link }

/-- Changes the six counts. -/
def State.onCounts (s : State) (f : LinkCounts → LinkCounts) : State :=
  s.onLink fun l => { l with counts := f l.counts }

/-- The link status byte goes out during the type byte of a transaction (R174, R185). -/
def State.transact (s : State) : State :=
  let s := s.begun
  { s with out := { s.out with linkStatus := some s.statusByte } }

/-- A REQUEST transaction: the link status byte, then 00h during every byte after the type byte (R174). -/
def State.requestTransaction (s : State) : State :=
  let s := s.transact
  { s with out := { s.out with linkFill := some 0 } }

/-- A frame that arrives during PROCESSING: an overrun (R176). -/
def State.overrun (s : State) : State :=
  ((s.onLink fun l => { l with overrun := true }).onCounts fun c => { c with overruns := count16 c.overruns }).raise .link

/-- A response in the slot is discarded unread when a frame is taken (R175). -/
def State.discardUnread (s : State) : State :=
  match s.link.response with
  | some _ =>
    (s.onLink fun l => { l with response := none }).onCounts fun c => { c with discarded := count16 c.discarded }
  | none => s

/-- A frame is taken: the slot holds the request, the last tag and the requests count follow (R175, R184). -/
def State.takeFrame (s : State) (tag kind code : Nat) : State :=
  let s := s.discardUnread
  let s := s.onLink fun l => { l with request := some { tag, kind, code, answer := none }, lastTag := tag }
  s.onCounts fun c => { c with requests := count16 c.requests }

/-- The owner's answer reaches the request slot, to be placed (R175). -/
def State.answer (s : State) (a : Answer) : State :=
  s.onLink fun l => { l with request := l.request.map fun r => { r with answer := some a } }

/-- A request frame: an overrun during PROCESSING; else it is taken, its owner takes or refuses it, every block acts on
the announcements, and the answer waits to be placed (R175, R176, R178). -/
def State.request (s : State) (tag kind code : Nat) (owner : State → Answer × State) : State :=
  let s := s.requestTransaction
  match s.link.request with
  | some _ => s.overrun
  | none =>
    let (a, s) := owner (s.takeFrame tag kind code)
    s.settle.answer a

/-- A request answered with a status alone. -/
def State.ask (s : State) (tag kind code : Nat) (owner : State → Status × State) : State :=
  s.request tag kind code fun s => let (st, s) := owner s; (plain st, s)

/-- The table code of a key (R178, R185). -/
def tableCode : TableKey → Nat
  | .cell _ => 1
  | .strip _ => 2
  | .inslot _ => 3
  | .outslot _ => 4
  | .program _ => 5
  | .wire _ _ _ => 6
  | .loop _ => 7
  | .cls _ => 8
  | .ticket _ => 9
  | .head _ => 10
  | .heater _ => 11
  | .panel _ _ => 12
  | .colourMap _ => 13
  | .backlight _ => 14
  | .touch _ => 15
  | .attention _ => 16
  | .link _ => 17

/-- The kind and table code of a write that is always refused. -/
def lockedCodes : LockedWrite → Nat × Nat
  | .cellPut => (3, 1)
  | .cellRetire => (5, 1)
  | .stripPut => (3, 2)
  | .stripAmend => (4, 2)
  | .outslotPut => (3, 4)
  | .outslotAmend => (4, 4)
  | .outslotRetire => (5, 4)
  | .loopRetire => (5, 7)
  | .ticketPut => (3, 9)
  | .ticketAmend => (4, 9)
  | .ticketRetire => (5, 9)
  | .headPut => (3, 10)
  | .headRetire => (5, 10)
  | .heaterPut => (3, 11)
  | .heaterAmend => (4, 11)
  | .heaterRetire => (5, 11)
  | .panelPut _ => (3, 12)
  | .panelAmend _ => (4, 12)
  | .panelRetire _ => (5, 12)
  | .colourMapPut => (3, 13)
  | .colourMapRetire => (5, 13)
  | .backlightPut => (3, 14)
  | .backlightRetire => (5, 14)
  | .touchPut => (3, 15)
  | .touchAmend => (4, 15)
  | .touchRetire => (5, 15)
  | .attentionPut => (3, 16)
  | .attentionRetire => (5, 16)
  | .linkPut => (3, 17)
  | .linkAmend => (4, 17)
  | .linkRetire => (5, 17)

/-- The response built from the answer that waits, with the overrun mark and the flags as they stand (R175, R176). -/
def State.buildResponse (s : State) (r : RequestSlot) (a : Answer) : Response :=
  { answer := a, overrun := s.link.overrun, tag := r.tag, kind := r.kind, code := r.code, flags := s.link.flags }

/-- A response is placed: ANSWERED, and the overrun mark it carries is cleared (R175, R176). -/
def State.place (s : State) (r : Response) : State :=
  s.onLink fun l => { l with request := none, response := some r, overrun := false }

/-- The owner's answer reaches the Link Interface; nothing outside PROCESSING (R175, log 3). -/
def State.responsePlaced (s : State) : State :=
  match s.link.request with
  | some r => s.place (s.buildResponse r (r.answer.getD (plain .ok)))
  | none => s

/-- A byte of a frame that has arrived, 0 where it has not (R186, of the kind and the code; of the tag log 41). -/
def byteAt (frame : List Byte) (n : Nat) : Nat := ((frame.drop n).headD 0).toNat

/-- A request frame of wrong form: an overrun during PROCESSING, else it is taken, counted, and answered BAD_FRAME at
once (R175, R178, R186). A frame cut before its tag byte is answered with tag 0, which is then the last tag: R186 gives
0 for the kind and the code alone, DESIGN CHOICE (log 41). -/
def State.badRequest (s : State) (frame : List Byte) : State :=
  let s := s.requestTransaction
  match s.link.request with
  | some _ => s.overrun
  | none =>
    let tag := byteAt frame 3
    let kind := byteAt frame 2
    let code := byteAt frame 4
    let s := s.takeFrame tag kind code
    let s := s.onCounts fun c => { c with badFrames := count16 c.badFrames }
    s.place (s.buildResponse { tag, kind, code, answer := none } (plain .badFrame))

/-- A transaction of unknown type (R174). What the part shifts out on the bytes after the type byte is not stated for it:
nothing stands in `out` for them, DESIGN CHOICE (log 30). -/
def State.unknownTransaction (s : State) : State :=
  ((s.transact).onCounts fun c => { c with ignored := count16 c.ignored }).raise .link

/-- Bytes put on the record link after the status byte. -/
def State.shiftOut (s : State) (bs : List Byte) : State := { s with out := { s.out with linkBytes := bs } }

/-- A READ that clocks n bytes after its type byte (R177, R186; log 30). -/
def State.readLink (s : State) (n : Nat) : State :=
  let s := s.transact
  match s.link.request, s.link.response with
  | none, some r =>
    let bs := r.bytes
    let s := s.shiftOut ((bs ++ List.replicate n 0).take n)
    if bs.length ≤ n then s.onLink fun l => { l with response := none } else s
  | _, _ =>
    let s := s.shiftOut ((0x3C :: List.replicate n 0).take n)
    s.onCounts fun c => { c with emptyReads := count16 c.emptyReads }

/-- A head named by number, refused with a status when it is neither (R73, R89, R90, R181). -/
def State.onHeadNumber (s : State) (n : Nat) (refusal : Status) (f : State → HeadId → Status × State) : Status × State :=
  match headOfNumber n with
  | some h => f s h
  | none => (refusal, s)

/-- A table of the single key 0: any other key is NO_SUCH (R179). -/
def State.onKeyZero (s : State) (key : Nat) (f : State → Status × State) : Status × State :=
  if key = 0 then f s else (.noSuch, s)

/-- An AMEND of ATTENTION (R183): the flags are LOCKED, and the line as they are, before BAD_FIELD: DESIGN CHOICE
(log 15). A mask bit that names no flag is BAD_FIELD, as a value of wrong range (R178): DEDUCED (log 35). -/
def State.amendAttention (s : State) (fs : List AttentionField) : Status × State :=
  if fs.any fun f => match f with | .mask _ => false | _ => true then (.locked, s)
  else if fs.any fun f => match f with | .mask m => decide (0x3FF < m) | _ => false then (.badField, s)
  else
    (.ok, fs.foldl (fun s f => match f with
      | .mask m => s.onLink fun l => { l with mask := BitVec.ofNat 10 m }
      | _ => s) s)

/-- CLEAR_ATTENTION: a set that names a flag that does not exist is BAD_FIELD. It carries no body (R181): its response
carries the flags after the clearing as every response carries them (R175, R183). -/
def State.clearAttention (s : State) (set : Nat) : Status × State :=
  if 0x3FF < set then (.badField, s) else (.ok, s.lower (BitVec.ofNat 10 set))

/-- The answer to CLEAR_SCREEN carries the draws discarded (R165, R181). -/
def State.clearScreenAnswer (s : State) : Answer × State :=
  let (n, s) := s.clearScreen
  (answered .ok (.discarded n), s)

/-- The answer to SUBMIT_RESULT carries the over-scale mark of an accepted result (R146, R181). -/
def State.submitAnswer (s : State) (ticket wire force mode : Nat) : Answer × State :=
  let (v, s) := s.judgeResult ticket wire force mode
  ({ status := v.status, body := .none, more := false,
     overScale := match v with | .accepted o => o | _ => false }, s)

end Sys2Proof.Machine
end

