-- ==== Sys2Proof/Machine/LinkCommands.lean ====
section
/-! DEFINITION. The meanings of POWER_ON_RESET and of the transactions of the record link. -/

namespace Sys2Proof.Machine

/-- What a command comes to. -/
abbrev Outcome := Host.Outcome State Fault Refusal

/-- An event that is no transaction of the record link: every block acts on its announcements. -/
def State.event (s : State) (f : State → State) : Outcome := .next (f s.begun).settle

/-- POWER_ON_RESET (R43): every block takes its power-on value, with the three lines as sampled; the commands that wait
still wait. -/
def execPowerOnReset (inputPresent outputPresent supervisor : Bool) (s : State) : Outcome :=
  .next (.atPowerOn inputPresent outputPresent supervisor s.pending)

/-- UNKNOWN_TRANSACTION: the type byte alone has been clocked (R174). With the byte of a REQUEST it is a REQUEST whose
frame has no byte, with that of a READ a READ that clocks none (R185, log 3). -/
def execUnknownTransaction (typeByte : Byte) (s : State) : Outcome :=
  match transactionType typeByte with
  | .unknown => .next s.unknownTransaction
  | .request => .next (s.badRequest [])
  | .read => .next (s.readLink 0)

/-- READ (R177). -/
def execRead (count : Nat) (s : State) : Outcome :=
  .next (s.readLink count)

/-- BAD_FRAME (R178). -/
def execBadFrame (frame : List Byte) (s : State) : Outcome :=
  .next (s.badRequest frame)

/-- A request frame that arrives during PROCESSING; outside PROCESSING there is nothing to overrun (R176, log 3). -/
def State.overrunFrame (s : State) : State :=
  let s := s.requestTransaction
  match s.link.request with
  | some _ => s.overrun
  | none => s

/-- OVERRUN (R176). -/
def execOverrun (s : State) : Outcome :=
  .next s.overrunFrame

/-- RESPONSE_PLACED (R175). -/
def execResponsePlaced (s : State) : Outcome :=
  .next s.begun.responsePlaced

end Sys2Proof.Machine
end

