-- ==== Sys2Proof/Machine/ActionCommands.lean ====
section
/-! DEFINITION. The meanings of the named actions. -/

namespace Sys2Proof.Machine

/-- LOT_START (R3, R150). -/
def execLotStart (tag lot : Nat) (s : State) : Outcome :=
  .next (s.ask tag 7 1 fun s => (.ok, s.lotStart lot))

/-- REJECT_UNIT (R14). -/
def execRejectUnit (tag strip column row : Nat) (s : State) : Outcome :=
  .next (s.ask tag 7 2 fun s => s.rejectUnit strip column row)

/-- UNREJECT_UNIT (R14). -/
def execUnrejectUnit (tag strip column row : Nat) (s : State) : Outcome :=
  .next (s.ask tag 7 3 fun s => s.unrejectUnit strip column row)

/-- FEED_RUN (R21). -/
def execFeedRun (tag : Nat) (s : State) : Outcome :=
  .next (s.ask tag 7 4 fun s => (.ok, s.feedRun))

/-- FEED_STOP (R21). -/
def execFeedStop (tag : Nat) (s : State) : Outcome :=
  .next (s.ask tag 7 5 fun s => (.ok, s.feedStop))

/-- FEED_CLEAR_COMPLETED (R39). -/
def execFeedClearCompleted (tag group : Nat) (s : State) : Outcome :=
  .next (s.ask tag 7 6 fun s => s.feedClear group .completed)

/-- FEED_CLEAR_BACK (R39). -/
def execFeedClearBack (tag group : Nat) (s : State) : Outcome :=
  .next (s.ask tag 7 6 fun s => s.feedClear group .back)

/-- FEED_CLEAR_REMOVED (R39). -/
def execFeedClearRemoved (tag group : Nat) (s : State) : Outcome :=
  .next (s.ask tag 7 6 fun s => s.feedClear group .removed)

/-- PROGRAM_APPLY (R57). -/
def execProgramApply (tag id : Nat) (s : State) : Outcome :=
  .next (s.ask tag 7 7 fun s => s.programApply id)

/-- HEAD_ENABLE (R73). -/
def execHeadEnable (tag number : Nat) (s : State) : Outcome :=
  .next (s.ask tag 7 8 fun s => s.onHeadNumber number .badField State.enableHead)

/-- HEAD_DISABLE (R73). -/
def execHeadDisable (tag number : Nat) (s : State) : Outcome :=
  .next (s.ask tag 7 9 fun s => s.onHeadNumber number .badField State.disableHead)

/-- HOLD (R98). -/
def execHold (tag number : Nat) (s : State) : Outcome :=
  .next (s.ask tag 7 10 fun s => s.onHeadNumber number .badField State.holdHead)

/-- RESUME (R99). -/
def execResume (tag number : Nat) (s : State) : Outcome :=
  .next (s.ask tag 7 11 fun s => s.onHeadNumber number .badField State.resumeHead)

/-- ABORT (R100). -/
def execAbort (tag number : Nat) (s : State) : Outcome :=
  .next (s.ask tag 7 12 fun s => s.onHeadNumber number .badField State.abortHead)

/-- NEW_CAPILLARY (R89). -/
def execNewCapillary (tag number : Nat) (s : State) : Outcome :=
  .next (s.ask tag 7 13 fun s => s.onHeadNumber number .badField State.newCapillary)

/-- HEAD_RESET (R101). -/
def execHeadReset (tag number : Nat) (s : State) : Outcome :=
  .next (s.ask tag 7 14 fun s => s.onHeadNumber number .badField State.resetHead)

/-- REQUALIFY (R130). -/
def execRequalify (tag id : Nat) (s : State) : Outcome :=
  .next (s.ask tag 7 15 fun s => s.requalify id)

/-- SAMPLE_NEXT (R138). -/
def execSampleNext (tag id : Nat) (s : State) : Outcome :=
  .next (s.ask tag 7 16 fun s => s.sampleNext id)

/-- SUBMIT_RESULT (R146). -/
def execSubmitResult (tag ticket wire force mode : Nat) (s : State) : Outcome :=
  .next (s.request tag 7 17 fun s => s.submitAnswer ticket wire force mode)

/-- WITHDRAW (R149). -/
def execWithdraw (tag ticket : Nat) (s : State) : Outcome :=
  .next (s.ask tag 7 18 fun s => s.withdraw ticket)

/-- DRAW (R163). -/
def execDraw (tag panel index : Nat) (shape : DrawShape) (s : State) : Outcome :=
  .next (s.ask tag 7 19 fun s => s.draw panel index shape)

/-- CLEAR_SCREEN (R165). -/
def execClearScreen (tag : Nat) (s : State) : Outcome :=
  .next (s.request tag 7 20 State.clearScreenAnswer)

/-- CLEAR_ATTENTION (R183). -/
def execClearAttention (tag set : Nat) (s : State) : Outcome :=
  .next (s.ask tag 7 21 fun s => s.clearAttention set)

/-- CELL_RESET (R182). -/
def execCellReset (tag : Nat) (s : State) : Outcome :=
  .next (s.ask tag 7 22 fun s => (.ok, s.cellReset))

end Sys2Proof.Machine
end

