-- ==== Sys2Proof/Machine/FeedCommands.lean ====
section
/-! DEFINITION. The meanings of the feed drive events, the presence lines and the soak timer. -/

namespace Sys2Proof.Machine

/-- SLOT_SEEN (R26). -/
def execSlotSeen (g : Group) (slot : Nat) (occupied : Bool) (s : State) : Outcome :=
  s.event fun s => s.slotSeen g slot occupied

/-- DONE (R20). -/
def execDone (g : Group) (s : State) : Outcome :=
  s.event fun s => s.feedDone g

/-- JAM (R22). -/
def execJam (g : Group) (s : State) : Outcome :=
  s.event fun s => s.feedJam g

/-- ORDER_TIMEOUT (R22). -/
def execOrderTimeout (g : Group) (s : State) : Outcome :=
  s.event fun s => s.orderTimeout g

/-- PRESENCE_RISE (R25). -/
def execPresenceRise (side : Side) (s : State) : Outcome :=
  s.event fun s => s.presenceRise side

/-- PRESENCE_FALL (R25). -/
def execPresenceFall (side : Side) (s : State) : Outcome :=
  s.event fun s => s.presenceFall side

/-- SOAK_ELAPSED (R32). -/
def execSoakElapsed (s : State) : Outcome :=
  s.event State.soakElapsed

end Sys2Proof.Machine
end

