-- ==== Sys2Proof/Machine/HeadCommands.lean ====
section
/-! DEFINITION. The meanings of the head drive events and the head timers. -/

namespace Sys2Proof.Machine

/-- AT_POSITION (R84). -/
def execAtPosition (h : HeadId) (s : State) : Outcome :=
  s.event fun s => s.atPosition h

/-- CONTACT (R85). -/
def execContact (h : HeadId) (s : State) : Outcome :=
  s.event fun s => s.contact h

/-- BOND_DONE (R84). -/
def execBondDone (h : HeadId) (s : State) : Outcome :=
  s.event fun s => s.bondDone h

/-- ATTACHED (R84). -/
def execAttached (h : HeadId) (s : State) : Outcome :=
  s.event fun s => s.attached h

/-- DETACHED (R91). -/
def execDetached (h : HeadId) (s : State) : Outcome :=
  s.event fun s => s.detached h

/-- SPARK_OK (R86). -/
def execSparkOk (h : HeadId) (s : State) : Outcome :=
  s.event fun s => s.sparkOk h

/-- SPARK_OPEN (R86). -/
def execSparkOpen (h : HeadId) (s : State) : Outcome :=
  s.event fun s => s.sparkOpen h

/-- STOPPED (R95). -/
def execStopped (h : HeadId) (s : State) : Outcome :=
  s.event fun s => s.stopped h

/-- DRIVE_FAULT (R96). -/
def execDriveFault (h : HeadId) (code : Nat) (s : State) : Outcome :=
  s.event fun s => s.driveFault h code

/-- STEP_TIMEOUT (R94). -/
def execStepTimeout (h : HeadId) (s : State) : Outcome :=
  s.event fun s => s.stepTimeout h

/-- STOP_TIMEOUT (R95). -/
def execStopTimeout (h : HeadId) (s : State) : Outcome :=
  s.event fun s => s.stopTimeout h

end Sys2Proof.Machine
end

