-- ==== Sys2Proof/Machine/PortCommands.lean ====
section
/-! DEFINITION. The meanings of the heater, gauge, touch and display events. -/

namespace Sys2Proof.Machine

/-- READING (R105). -/
def execReading (frame : HeaterFrame) (s : State) : Outcome :=
  s.event fun s => s.takeReading frame

/-- FRESHNESS_EXPIRY (R106). -/
def execFreshnessExpiry (s : State) : Outcome :=
  s.event State.freshnessExpiry

/-- RESULT_FRAME (R145). -/
def execResultFrame (bytes : List Byte) (s : State) : Outcome :=
  s.event fun s => s.gaugeBytes bytes

/-- GAUGE_FRAME_LIMIT (R187). -/
def execGaugeFrameLimit (s : State) : Outcome :=
  s.event State.gaugeExpiry

/-- PRESS (R169). -/
def execPress (x y : Nat) (s : State) : Outcome :=
  s.event fun s => s.press x y

/-- RELEASE (R169). -/
def execRelease (s : State) : Outcome :=
  s.event State.release

/-- DIM_TIMEOUT (R168). -/
def execDimTimeout (s : State) : Outcome :=
  s.event State.dimTimeout

/-- KEY_SWITCH_CHANGE (R171). -/
def execKeySwitchChange (supervisor : Bool) (s : State) : Outcome :=
  s.event fun s => s.keySwitch supervisor

/-- FRAME_START (R156). -/
def execFrameStart (s : State) : Outcome :=
  s.event State.frameStart

/-- RENDER_COMPLETE (R160). -/
def execRenderComplete (s : State) : Outcome :=
  s.event State.renderComplete

/-- DRAW_COMPLETE (R164). -/
def execDrawComplete (s : State) : Outcome :=
  s.event State.drawComplete

end Sys2Proof.Machine
end

