-- ==== Sys2Proof/Machine/ReadCommands.lean ====
section
/-! DEFINITION. The meanings of LOOK, LIST and the TAKEs. -/

namespace Sys2Proof.Machine

/-- LOOK (R179). -/
def execLook (tag : Nat) (key : TableKey) (s : State) : Outcome :=
  .next (s.request tag 1 (tableCode key) fun s => (s.lookAnswer key, s))

/-- LIST (R179). -/
def execList (tag : Nat) (start : TableKey) (s : State) : Outcome :=
  .next (s.request tag 2 (tableCode start) fun s => (s.listAnswer start, s))

/-- TAKE of a table whose record holds no saturating count (R179). -/
def execTake (tag : Nat) (key : TableKey) (s : State) : Outcome :=
  .next (s.request tag 6 (tableCode key) fun s => s.takeKey key)

/-- TAKE_PROGRAM (R60, R135). -/
def execTakeProgram (tag id : Nat) (s : State) : Outcome :=
  .next (s.request tag 6 5 fun s => s.takeKey (.program id))

/-- TAKE_HEAD (R102). -/
def execTakeHead (tag number : Nat) (s : State) : Outcome :=
  .next (s.request tag 6 10 fun s => s.takeKey (.head number))

/-- TAKE_HEATER (R115). -/
def execTakeHeater (tag key : Nat) (s : State) : Outcome :=
  .next (s.request tag 6 11 fun s => s.takeKey (.heater key))

/-- TAKE_CLASS (R134). -/
def execTakeClass (tag id : Nat) (s : State) : Outcome :=
  .next (s.request tag 6 8 fun s => s.takeKey (.cls id))

/-- TAKE_TICKET (R151). -/
def execTakeTicket (tag number : Nat) (s : State) : Outcome :=
  .next (s.request tag 6 9 fun s => s.takeKey (.ticket number))

/-- TAKE_PANEL (R155). -/
def execTakePanel (tag number : Nat) (s : State) : Outcome :=
  .next (s.request tag 6 12 fun s => s.takeKey (.panel number .active))

/-- TAKE_TOUCH (R172). -/
def execTakeTouch (tag key : Nat) (s : State) : Outcome :=
  .next (s.request tag 6 15 fun s => s.takeKey (.touch key))

/-- TAKE_ATTENTION (R183). -/
def execTakeAttention (tag key : Nat) (s : State) : Outcome :=
  .next (s.request tag 6 16 fun s => s.takeKey (.attention key))

/-- TAKE_LINK (R184). -/
def execTakeLink (tag key : Nat) (s : State) : Outcome :=
  .next (s.request tag 6 17 fun s => s.takeKey (.link key))

end Sys2Proof.Machine
end

