-- ==== Sys2Proof/Machine/WriteCommands.lean ====
section
/-! DEFINITION. The meanings of the table writes. -/

namespace Sys2Proof.Machine

/-- WRITE_LOCKED (R179). -/
def execWriteLocked (tag : Nat) (write : LockedWrite) (s : State) : Outcome :=
  .next (s.ask tag (lockedCodes write).1 (lockedCodes write).2 fun s => (lockedStatus write, s))

/-- RETIRE_STRIP (R18). -/
def execRetireStrip (tag id : Nat) (s : State) : Outcome :=
  .next (s.ask tag 5 2 fun s => s.retireStrip id)

/-- PUT_INSLOT (R27). -/
def execPutInslot (tag slot : Nat) (map : Option (List Pos)) (hostTag : Option Nat) (s : State) : Outcome :=
  .next (s.ask tag 3 3 fun s => s.putInslot slot map hostTag)

/-- AMEND_INSLOT (R27). -/
def execAmendInslot (tag slot : Nat) (fields : List InslotField) (s : State) : Outcome :=
  .next (s.ask tag 4 3 fun s => s.amendInslot slot fields)

/-- RETIRE_INSLOT (R27). -/
def execRetireInslot (tag slot : Nat) (s : State) : Outcome :=
  .next (s.ask tag 5 3 fun s => s.retireInslot slot)

/-- PUT_PROGRAM (R45). -/
def execPutProgram (tag id : Nat) (body : ProgramBody) (s : State) : Outcome :=
  .next (s.ask tag 3 5 fun s => s.putProgram id body)

/-- AMEND_PROGRAM (R54). -/
def execAmendProgram (tag id : Nat) (fields : List ProgramField) (s : State) : Outcome :=
  .next (s.ask tag 4 5 fun s => s.amendProgram id fields)

/-- RETIRE_PROGRAM (R55). -/
def execRetireProgram (tag id : Nat) (s : State) : Outcome :=
  .next (s.ask tag 5 5 fun s => s.retireProgram id)

/-- PUT_WIRE (R51). -/
def execPutWire (tag program index : Nat) (wire : Wire) (s : State) : Outcome :=
  .next (s.ask tag 3 6 fun s => s.putWire program index wire)

/-- AMEND_WIRE (R52). -/
def execAmendWire (tag program index : Nat) (fields : List WireField) (s : State) : Outcome :=
  .next (s.ask tag 4 6 fun s => s.amendWire program index fields)

/-- RETIRE_WIRE (R53). -/
def execRetireWire (tag program index : Nat) (s : State) : Outcome :=
  .next (s.ask tag 5 6 fun s => s.retireWire program index)

/-- PUT_LOOP (R59). -/
def execPutLoop (tag entry : Nat) (body : LoopBody) (s : State) : Outcome :=
  .next (s.ask tag 3 7 fun s => s.putLoop entry body)

/-- AMEND_LOOP (R59). -/
def execAmendLoop (tag entry : Nat) (fields : List LoopField) (s : State) : Outcome :=
  .next (s.ask tag 4 7 fun s => s.amendLoop entry fields)

/-- PUT_CLASS (R119). -/
def execPutClass (tag id : Nat) (body : ClassBody) (s : State) : Outcome :=
  .next (s.ask tag 3 8 fun s => s.putClass id body)

/-- AMEND_CLASS (R120). -/
def execAmendClass (tag id : Nat) (fields : List ClassField) (s : State) : Outcome :=
  .next (s.ask tag 4 8 fun s => s.amendClass id fields)

/-- RETIRE_CLASS (R121). -/
def execRetireClass (tag id : Nat) (s : State) : Outcome :=
  .next (s.ask tag 5 8 fun s => s.retireClass id)

/-- AMEND_HEAD (R90). -/
def execAmendHead (tag number : Nat) (fields : List HeadField) (s : State) : Outcome :=
  .next (s.ask tag 4 10 fun s => s.onHeadNumber number .noSuch fun s h => s.amendHead h fields)

/-- PUT_PANEL (R155). -/
def execPutPanel (tag number : Nat) (body : PanelBody) (s : State) : Outcome :=
  .next (s.ask tag 3 12 fun s => s.putPanel number body)

/-- AMEND_PANEL (R154, R155). -/
def execAmendPanel (tag number : Nat) (fields : List PanelField) (s : State) : Outcome :=
  .next (s.ask tag 4 12 fun s => s.amendPanel number fields)

/-- RETIRE_PANEL (R155). -/
def execRetirePanel (tag number : Nat) (s : State) : Outcome :=
  .next (s.ask tag 5 12 fun s => s.retirePanel number)

/-- AMEND_COLOURMAP (R153). -/
def execAmendColourmap (tag key : Nat) (fields : List ColourField) (s : State) : Outcome :=
  .next (s.ask tag 4 13 fun s => s.onKeyZero key fun s => s.amendColours fields)

/-- AMEND_BACKLIGHT (R167). -/
def execAmendBacklight (tag key : Nat) (fields : List BacklightField) (s : State) : Outcome :=
  .next (s.ask tag 4 14 fun s => s.onKeyZero key fun s => s.amendBacklight fields)

/-- AMEND_ATTENTION (R183). -/
def execAmendAttention (tag key : Nat) (fields : List AttentionField) (s : State) : Outcome :=
  .next (s.ask tag 4 16 fun s => s.onKeyZero key fun s => s.amendAttention fields)

/-- AMEND_CELL_MIXED: the fields belong to several owners, so the Link Interface refuses it (R180). -/
def execAmendCellMixed (tag key : Nat) (_fields : List CellField) (s : State) : Outcome :=
  .next (s.ask tag 4 1 fun s => s.onKeyZero key fun s => (.badField, s))

/-- AMEND_CELL_STRIP (R3). -/
def execAmendCellStrip (tag key : Nat) (fields : List CellStripField) (s : State) : Outcome :=
  .next (s.ask tag 4 1 fun s => s.onKeyZero key fun s => s.amendCellStrip fields)

/-- AMEND_CELL_FEED (R21, R28). -/
def execAmendCellFeed (tag key : Nat) (fields : List CellFeedField) (s : State) : Outcome :=
  .next (s.ask tag 4 1 fun s => s.onKeyZero key fun s => s.amendCellFeed fields)

/-- AMEND_CELL_WINDOW (R63). -/
def execAmendCellWindow (tag key : Nat) (fields : List CellWindowField) (s : State) : Outcome :=
  .next (s.ask tag 4 1 fun s => s.onKeyZero key fun s => s.amendCellWindow fields)

/-- AMEND_CELL_MISS_RUN (R90). -/
def execAmendCellMissRun (tag key value : Nat) (s : State) : Outcome :=
  .next (s.ask tag 4 1 fun s => s.onKeyZero key fun s => s.amendCellMissRun value)

/-- AMEND_CELL_DUE_COUNT (R142). -/
def execAmendCellDueCount (tag key value : Nat) (s : State) : Outcome :=
  .next (s.ask tag 4 1 fun s => s.onKeyZero key fun s => s.amendCellDueCount value)

/-- AMEND_CELL_HEATER (R108). -/
def execAmendCellHeater (tag key : Nat) (fields : List CellHeaterField) (s : State) : Outcome :=
  .next (s.ask tag 4 1 fun s => s.onKeyZero key fun s => s.amendCellHeater fields)

end Sys2Proof.Machine
end

