-- ==== Sys2Proof/Machine/Dispatch.lean ====
section
/-! DEFINITION. One arm for each command: its meaning. -/

namespace Sys2Proof.Machine

def exec (i : Instr) (s : State) : Host.Outcome State Fault Refusal :=
  match i with
  | .powerOnReset inputPresent outputPresent supervisor => Sys2Proof.Machine.execPowerOnReset inputPresent outputPresent supervisor s
  | .unknownTransaction typeByte => Sys2Proof.Machine.execUnknownTransaction typeByte s
  | .read count => Sys2Proof.Machine.execRead count s
  | .badFrame frame => Sys2Proof.Machine.execBadFrame frame s
  | .overrun => Sys2Proof.Machine.execOverrun s
  | .responsePlaced => Sys2Proof.Machine.execResponsePlaced s
  | .look tag key => Sys2Proof.Machine.execLook tag key s
  | .list tag start => Sys2Proof.Machine.execList tag start s
  | .take tag key => Sys2Proof.Machine.execTake tag key s
  | .takeProgram tag id => Sys2Proof.Machine.execTakeProgram tag id s
  | .takeHead tag number => Sys2Proof.Machine.execTakeHead tag number s
  | .takeHeater tag key => Sys2Proof.Machine.execTakeHeater tag key s
  | .takeClass tag id => Sys2Proof.Machine.execTakeClass tag id s
  | .takeTicket tag number => Sys2Proof.Machine.execTakeTicket tag number s
  | .takePanel tag number => Sys2Proof.Machine.execTakePanel tag number s
  | .takeTouch tag key => Sys2Proof.Machine.execTakeTouch tag key s
  | .takeAttention tag key => Sys2Proof.Machine.execTakeAttention tag key s
  | .takeLink tag key => Sys2Proof.Machine.execTakeLink tag key s
  | .writeLocked tag write => Sys2Proof.Machine.execWriteLocked tag write s
  | .retireStrip tag id => Sys2Proof.Machine.execRetireStrip tag id s
  | .putInslot tag slot map hostTag => Sys2Proof.Machine.execPutInslot tag slot map hostTag s
  | .amendInslot tag slot fields => Sys2Proof.Machine.execAmendInslot tag slot fields s
  | .retireInslot tag slot => Sys2Proof.Machine.execRetireInslot tag slot s
  | .putProgram tag id body => Sys2Proof.Machine.execPutProgram tag id body s
  | .amendProgram tag id fields => Sys2Proof.Machine.execAmendProgram tag id fields s
  | .retireProgram tag id => Sys2Proof.Machine.execRetireProgram tag id s
  | .putWire tag program index wire => Sys2Proof.Machine.execPutWire tag program index wire s
  | .amendWire tag program index fields => Sys2Proof.Machine.execAmendWire tag program index fields s
  | .retireWire tag program index => Sys2Proof.Machine.execRetireWire tag program index s
  | .putLoop tag entry body => Sys2Proof.Machine.execPutLoop tag entry body s
  | .amendLoop tag entry fields => Sys2Proof.Machine.execAmendLoop tag entry fields s
  | .putClass tag id body => Sys2Proof.Machine.execPutClass tag id body s
  | .amendClass tag id fields => Sys2Proof.Machine.execAmendClass tag id fields s
  | .retireClass tag id => Sys2Proof.Machine.execRetireClass tag id s
  | .amendHead tag number fields => Sys2Proof.Machine.execAmendHead tag number fields s
  | .putPanel tag number body => Sys2Proof.Machine.execPutPanel tag number body s
  | .amendPanel tag number fields => Sys2Proof.Machine.execAmendPanel tag number fields s
  | .retirePanel tag number => Sys2Proof.Machine.execRetirePanel tag number s
  | .amendColourmap tag key fields => Sys2Proof.Machine.execAmendColourmap tag key fields s
  | .amendBacklight tag key fields => Sys2Proof.Machine.execAmendBacklight tag key fields s
  | .amendAttention tag key fields => Sys2Proof.Machine.execAmendAttention tag key fields s
  | .amendCellMixed tag key fields => Sys2Proof.Machine.execAmendCellMixed tag key fields s
  | .amendCellStrip tag key fields => Sys2Proof.Machine.execAmendCellStrip tag key fields s
  | .amendCellFeed tag key fields => Sys2Proof.Machine.execAmendCellFeed tag key fields s
  | .amendCellWindow tag key fields => Sys2Proof.Machine.execAmendCellWindow tag key fields s
  | .amendCellMissRun tag key value => Sys2Proof.Machine.execAmendCellMissRun tag key value s
  | .amendCellDueCount tag key value => Sys2Proof.Machine.execAmendCellDueCount tag key value s
  | .amendCellHeater tag key fields => Sys2Proof.Machine.execAmendCellHeater tag key fields s
  | .lotStart tag lot => Sys2Proof.Machine.execLotStart tag lot s
  | .rejectUnit tag strip column row => Sys2Proof.Machine.execRejectUnit tag strip column row s
  | .unrejectUnit tag strip column row => Sys2Proof.Machine.execUnrejectUnit tag strip column row s
  | .feedRun tag => Sys2Proof.Machine.execFeedRun tag s
  | .feedStop tag => Sys2Proof.Machine.execFeedStop tag s
  | .feedClearCompleted tag group => Sys2Proof.Machine.execFeedClearCompleted tag group s
  | .feedClearBack tag group => Sys2Proof.Machine.execFeedClearBack tag group s
  | .feedClearRemoved tag group => Sys2Proof.Machine.execFeedClearRemoved tag group s
  | .programApply tag id => Sys2Proof.Machine.execProgramApply tag id s
  | .headEnable tag number => Sys2Proof.Machine.execHeadEnable tag number s
  | .headDisable tag number => Sys2Proof.Machine.execHeadDisable tag number s
  | .hold tag number => Sys2Proof.Machine.execHold tag number s
  | .resume tag number => Sys2Proof.Machine.execResume tag number s
  | .abort tag number => Sys2Proof.Machine.execAbort tag number s
  | .newCapillary tag number => Sys2Proof.Machine.execNewCapillary tag number s
  | .headReset tag number => Sys2Proof.Machine.execHeadReset tag number s
  | .requalify tag id => Sys2Proof.Machine.execRequalify tag id s
  | .sampleNext tag id => Sys2Proof.Machine.execSampleNext tag id s
  | .submitResult tag ticket wire force mode => Sys2Proof.Machine.execSubmitResult tag ticket wire force mode s
  | .withdraw tag ticket => Sys2Proof.Machine.execWithdraw tag ticket s
  | .draw tag panel index shape => Sys2Proof.Machine.execDraw tag panel index shape s
  | .clearScreen tag => Sys2Proof.Machine.execClearScreen tag s
  | .clearAttention tag set => Sys2Proof.Machine.execClearAttention tag set s
  | .cellReset tag => Sys2Proof.Machine.execCellReset tag s
  | .atPosition h => Sys2Proof.Machine.execAtPosition h s
  | .contact h => Sys2Proof.Machine.execContact h s
  | .bondDone h => Sys2Proof.Machine.execBondDone h s
  | .attached h => Sys2Proof.Machine.execAttached h s
  | .detached h => Sys2Proof.Machine.execDetached h s
  | .sparkOk h => Sys2Proof.Machine.execSparkOk h s
  | .sparkOpen h => Sys2Proof.Machine.execSparkOpen h s
  | .stopped h => Sys2Proof.Machine.execStopped h s
  | .driveFault h code => Sys2Proof.Machine.execDriveFault h code s
  | .stepTimeout h => Sys2Proof.Machine.execStepTimeout h s
  | .stopTimeout h => Sys2Proof.Machine.execStopTimeout h s
  | .slotSeen g slot occupied => Sys2Proof.Machine.execSlotSeen g slot occupied s
  | .done g => Sys2Proof.Machine.execDone g s
  | .jam g => Sys2Proof.Machine.execJam g s
  | .orderTimeout g => Sys2Proof.Machine.execOrderTimeout g s
  | .presenceRise side => Sys2Proof.Machine.execPresenceRise side s
  | .presenceFall side => Sys2Proof.Machine.execPresenceFall side s
  | .soakElapsed => Sys2Proof.Machine.execSoakElapsed s
  | .reading frame => Sys2Proof.Machine.execReading frame s
  | .freshnessExpiry => Sys2Proof.Machine.execFreshnessExpiry s
  | .resultFrame bytes => Sys2Proof.Machine.execResultFrame bytes s
  | .gaugeFrameLimit => Sys2Proof.Machine.execGaugeFrameLimit s
  | .press x y => Sys2Proof.Machine.execPress x y s
  | .release => Sys2Proof.Machine.execRelease s
  | .dimTimeout => Sys2Proof.Machine.execDimTimeout s
  | .keySwitchChange supervisor => Sys2Proof.Machine.execKeySwitchChange supervisor s
  | .frameStart => Sys2Proof.Machine.execFrameStart s
  | .renderComplete => Sys2Proof.Machine.execRenderComplete s
  | .drawComplete => Sys2Proof.Machine.execDrawComplete s

end Sys2Proof.Machine
end

