-- ==== Sys2Proof/Machine/Tick.lean ====
section
/-! DEFINITION. One millisecond of the Timebase: every running timer counts, and those that reach their end expire
(00, Time; R22, R32, R84, R94, R104, R106, R168, R187; log 2). -/

namespace Sys2Proof.Machine

/-- A timer that has reached its end. -/
def ended (t : Option Nat) : Bool := t == some 0

/-- The soak timer one millisecond later, not yet judged. -/
def Soak.tick : Soak → Soak
  | .running ms => .running (ms - 1)
  | v => v

/-- The order timer of a group one millisecond later. -/
def GroupContext.tick (g : GroupContext) : GroupContext := { g with timer := countDown g.timer }

/-- The timers of a head one millisecond later. -/
def Head.tick (r : Head) : Head := { r with stepTimer := countDown r.stepTimer, stopTimer := countDown r.stopTimer }

/-- The age and the freshness timer one millisecond later (R104). -/
def Heater.tick (h : Heater) : Heater := { h with age := h.age.map count16, freshTimer := countDown h.freshTimer }

/-- Every count of milliseconds advanced (R104, R167, R168; log 21). -/
def State.countMillisecond (s : State) : State :=
  { s with
    heater := s.heater.tick
    feed := { s.feed with input := s.feed.input.tick, track := s.feed.track.tick, output := s.feed.output.tick,
                          soak := s.feed.soak.tick }
    head1 := s.head1.tick
    head2 := s.head2.tick
    gauge := { s.gauge with limit := countDown s.gauge.limit }
    touch := { s.touch with dimTimer := satSucc 4294967295 s.touch.dimTimer
                            sincePress := satSucc 4294967295 s.touch.sincePress } }

/-- The dim timer has reached the dim time (R168). -/
def State.dimReached (s : State) : Bool := decide (s.screen.backlight.dimTime * 1000 ≤ s.touch.dimTimer)

/-- A head's timers that have reached their end expire. -/
def State.headExpiries (s : State) (h : HeadId) : State :=
  let s := if ended (s.head h).stepTimer then s.stepTimeout h else s
  if ended (s.head h).stopTimer then s.stopTimeout h else s

/-- An order timer that has reached its end expires. -/
def State.groupExpiry (s : State) (g : Group) : State := if ended (s.group g).timer then s.orderTimeout g else s

/-- The timers that have reached their end expire, in the order of the blocks (log 2). -/
def State.expiries (s : State) : State :=
  let s := if ended s.heater.freshTimer then s.freshnessExpiry else s
  let s := if s.feed.soak = .running 0 then s.soakElapsed else s
  let s := ((s.groupExpiry .input).groupExpiry .track).groupExpiry .output
  let s := (s.headExpiries .one).headExpiries .two
  let s := if ended s.gauge.limit then s.gaugeExpiry else s
  if s.dimReached then s.dimTimeout else s

/-- One millisecond. -/
def State.tick (s : State) : State := (s.begun.countMillisecond).expiries.settle

end Sys2Proof.Machine
end

