-- ==== Sys2Proof/Safety.lean ====
section
/-! DEFINITION. What a run of the part is held to, in the terms the statements use: the invariants the manual states for
its tables, its track, its claims and capillaries, its tickets, its frame memory, its averages and its bond orders, and
what a request leaves on the record link. -/

namespace Sys2Proof.Safety

open Sys2Proof.Machine

/-! ## What a request leaves on the record link -/

/-- The link once a frame is taken: an unread response is discarded and counted, the request is in its slot, the last
tag and the requests count follow (R175, R184). -/
def linkTaken (l : Link) (tag kind code : Nat) (answer : Option Answer) : Link :=
  { l with
    request := some { tag, kind, code, answer }
    response := none
    lastTag := tag
    counts :=
      { l.counts with
        requests := count16 l.counts.requests
        discarded := if l.response.isSome then count16 l.counts.discarded else l.counts.discarded } }

/-- The outputs of a transaction that sends nothing but the link status byte (R174). -/
def statusByteOnly (s : State) : Outputs := { Outputs.empty with linkStatus := some s.statusByte }

/-- The outputs of a REQUEST that sends no order: the link status byte during the type byte, 00h during every byte after
it (R174). -/
def statusOnly (s : State) : Outputs := { statusByteOnly s with linkFill := some 0 }

/-- The state in which an owner meets a request that is taken. -/
def taken (s : State) (tag kind code : Nat) : State :=
  { s with link := linkTaken s.link tag kind code none, out := statusOnly s, due := .none }

/-- The state after a request that is taken and answered, and that changes nothing outside the record link. -/
def replied (s : State) (tag kind code : Nat) (a : Answer) : State :=
  { s with link := linkTaken s.link tag kind code (some a), out := statusOnly s, due := .none }

/-- A request has been taken and answered: its slot holds this answer, to be placed (R175). -/
def Holds (t : State) (tag kind code : Nat) (a : Answer) : Prop :=
  t.link.request = some { tag, kind, code, answer := some a }

/-- The state after an event that changes nothing: nothing sent, no announcement waiting. -/
def quiet (s : State) : State := { s with out := .empty, due := .none }

/-- The LINK record as a read with this tag finds it: in process, and counted itself among the requests (R184). -/
def linkRead (s : State) (tag : Nat) : LinkView :=
  { state := .processing, overrun := s.link.overrun, lastTag := tag, counts := (linkTaken s.link tag 0 0 none).counts }

/-- The record of a key as it stands when a read with this tag is taken, none for a key that names none: in a table of
the single key 0 every other key, in the others an id, a number or a slot that is not there (R1, R24, R27, R60, R102,
R115, R134, R151, R153, R155, R167, R172, R179, R180, R183, R184). -/
def recordOf (s : State) (tag : Nat) : TableKey → Option Body
  | .cell k => if k = 0 then some (.cell
      { program := s.store.program, lot := s.store.lot, inCount := s.feed.inSlots.length,
        outCount := s.feed.outSlots.length, run := s.feed.run, cell := s.cell, arbiter := s.arbiter
        feed := { input := s.feed.input, track := s.feed.track, output := s.feed.output
                  inPresent := s.feed.inPresent, outPresent := s.feed.outPresent, inScanDue := s.feed.inScanDue
                  outScanDue := s.feed.outScanDue, preheat := s.feed.preheat, window := s.feed.window
                  exit := s.feed.exit, soak := s.feed.soak, inTarget := s.feed.inTarget
                  outTarget := s.feed.outTarget } }) else none
  | .strip id => (s.strip id).map .strip
  | .inslot n => (nth s.feed.inSlots n).map (.inslot n)
  | .outslot n => (nth s.feed.outSlots n).map (.outslot n)
  | .program id => (s.program id).map fun p =>
      .program { program := p, memoryFree := 4096 - recordsUsed s.programs, sampling := s.sampling id }
  | .wire p i .active => ((s.program p).bind fun q => nth q.active.wires i).map (.wire i)
  | .wire p i .staged => (((s.program p).bind Program.staged).bind fun c => nth c.wires i).map (.wire i)
  | .loop n => (nth s.loops n).map (.loop n)
  | .cls id => (s.cls id).map .cls
  | .ticket n =>
    if n = 0 then some (.ticketSummary { pending := s.quality.tickets.length, next := s.quality.nextTicket
                                         dueCount := s.cell.dueCount, counts := s.quality.counts })
    else (s.ticket n).map .ticket
  | .head n => (headOfNumber n).map fun h => .head n (s.head h)
  | .heater k => if k = 0 then some (.heater { heater := s.heater, setPoint := s.cell.setPoint
                                               window := s.cell.window, gain := s.cell.gain }) else none
  | .panel n v =>
    if n = 16 then some (.engine
      { stale := s.screen.stale, queued := s.screen.queue.length, renders := s.screen.renders
        executed := s.screen.drawsExecuted, dropped := s.screen.drawsDropped
        operation := match s.screen.operation with
          | none => none
          | some (.render pic) => some (false, pic.panel.number)
          | some (.draw d _) => some (true, d.panel) })
    else match v with
      | .active => (s.panel n).map fun a => .panel a.panel a.canvasCleared
      | .staged => (findBy Panel.number n s.screen.staged).map fun p => .panel p false
  | .colourMap k => if k = 0 then some (.colourMap s.screen.palette s.screen.colours) else none
  | .backlight k => if k = 0 then some (.backlight
      { backlight := s.screen.backlight, dimmed := s.touch.dimmed, sincePress := s.touch.sincePress
        level := if s.touch.dimmed then s.screen.backlight.dimLevel else s.screen.backlight.level }) else none
  | .touch k => if k = 0 then some (.touch s.touch) else none
  | .attention k => if k = 0 then some (.attention
      { flags := s.link.flags, mask := s.link.mask, line := decide (s.link.flags &&& s.link.mask ≠ 0) }) else none
  | .link k => if k = 0 then some (.link (linkRead s tag)) else none

/-- What a read answers: OK with the record, or NO_SUCH for a key that names none (R179). -/
def readAnswer (s : State) (tag : Nat) (key : TableKey) : Answer :=
  match recordOf s tag key with
  | some b => answered .ok b
  | none => plain .noSuch

/-- The keys of the records of a key's table, of its program and copy for WIRE, of its copy for PANEL, in the order the
table holds them; the ticket summary and the engine summary are none of them (R179; log 14). -/
def tableKeys (s : State) : TableKey → List TableKey
  | .cell _ => [.cell 0]
  | .strip _ => s.store.strips.map fun r => .strip r.id
  | .inslot _ => (List.range' 1 s.feed.inSlots.length).map .inslot
  | .outslot _ => (List.range' 1 s.feed.outSlots.length).map .outslot
  | .program _ => s.programs.map fun p => .program p.id
  | .wire p _ v =>
    match s.program p, v with
    | none, _ => []
    | some q, .active => (List.range' 1 q.active.wires.length).map fun i => .wire p i .active
    | some q, .staged =>
      match q.staged with
      | none => []
      | some c => (List.range' 1 c.wires.length).map fun i => .wire p i .staged
  | .loop _ => (List.range' 1 s.loops.length).map .loop
  | .cls _ => s.quality.classes.map fun c => .cls c.id
  | .ticket _ => s.quality.tickets.map fun t => .ticket t.number
  | .head _ => [.head 1, .head 2]
  | .heater _ => [.heater 0]
  | .panel _ .active => s.screen.active.map fun a => .panel a.panel.number .active
  | .panel _ .staged => s.screen.staged.map fun p => .panel p.number .staged
  | .colourMap _ => [.colourMap 0]
  | .backlight _ => [.backlight 0]
  | .touch _ => [.touch 0]
  | .attention _ => [.attention 0]
  | .link _ => [.link 0]

/-- The number by which the keys of one table are ordered: the index for WIRE (R179). -/
def keyNumber : TableKey → Nat
  | .wire _ i _ => i
  | .cell n | .strip n | .inslot n | .outslot n | .program n | .loop n | .cls n | .ticket n | .head n | .heater n
  | .panel n _ | .colourMap n | .backlight n | .touch n | .attention n | .link n => n

/-- Outputs with the orders on one head link as given. -/
def sending (o : Outputs) (h : HeadId) (orders : List HeadOrder) : Outputs :=
  match h with
  | .one => { o with head1 := orders }
  | .two => { o with head2 := orders }

/-- What the last command put on a head link. -/
def sent (s : State) (h : HeadId) : List HeadOrder :=
  match h with
  | .one => s.out.head1
  | .two => s.out.head2

/-- The commands that are request frames on the record link; the others are the power-on reset, the other transactions,
the placing of an answer, and the events (R174, R176). -/
def isRequest : Instr → Bool
  | .powerOnReset _ _ _ | .unknownTransaction _ | .read _ | .responsePlaced => false
  | .atPosition _ | .contact _ | .bondDone _ | .attached _ | .detached _ | .sparkOk _ | .sparkOpen _ | .stopped _
  | .driveFault _ _ | .stepTimeout _ | .stopTimeout _ => false
  | .slotSeen _ _ _ | .done _ | .jam _ | .orderTimeout _ | .presenceRise _ | .presenceFall _ | .soakElapsed => false
  | .reading _ | .freshnessExpiry | .resultFrame _ | .gaugeFrameLimit => false
  | .press _ _ | .release | .dimTimeout | .keySwitchChange _ => false
  | .frameStart | .renderComplete | .drawComplete => false
  | _ => true

/-- The attention flag of a head is set (R183). -/
def attends (s : State) (h : HeadId) : Prop := s.link.flags &&& (Attention.ofHead h).bit = (Attention.ofHead h).bit

/-! ## A millisecond -/

/-- A head with its running timers one millisecond further on (R84, R94). -/
def countedHead (r : Head) : Head :=
  { r with stepTimer := r.stepTimer.map (· - 1), stopTimer := r.stopTimer.map (· - 1) }

/-- A group with its order timer, when it runs, one millisecond further on (R22). -/
def countedGroup (g : GroupContext) : GroupContext := { g with timer := g.timer.map (· - 1) }

/-- The part with one millisecond counted by every timer that runs and by the two times of the touch, the age of the
reading stopping at its maximum (R22, R32, R84, R94, R104, R106, R167, R168, R187). -/
def counted (s : State) : State :=
  { s with
    heater := { s.heater with
      age := s.heater.age.map fun n => if n < 65535 then n + 1 else 65535
      freshTimer := s.heater.freshTimer.map (· - 1) }
    feed := { s.feed with
      input := countedGroup s.feed.input
      track := countedGroup s.feed.track
      output := countedGroup s.feed.output
      soak := match s.feed.soak with | .running ms => .running (ms - 1) | v => v }
    head1 := countedHead s.head1
    head2 := countedHead s.head2
    gauge := { s.gauge with limit := s.gauge.limit.map (· - 1) }
    touch := { s.touch with
      dimTimer := if s.touch.dimTimer < 4294967295 then s.touch.dimTimer + 1 else 4294967295
      sincePress := if s.touch.sincePress < 4294967295 then s.touch.sincePress + 1 else 4294967295 } }

/-- The events of the timers that stand at their end: freshness, soak, the order of each group, the step and the stop of
each head, the gauge frame, and the dim time in seconds. -/
def expiring (s : State) : List Instr :=
  (if s.heater.freshTimer = some 0 then [Instr.freshnessExpiry] else []) ++
    (if s.feed.soak = .running 0 then [Instr.soakElapsed] else []) ++
    ([Group.input, .track, .output].filter fun g => (s.group g).timer == some 0).map Instr.orderTimeout ++
    ([HeadId.one, .two].flatMap fun h =>
      (if (s.head h).stepTimer = some 0 then [Instr.stepTimeout h] else []) ++
        if (s.head h).stopTimer = some 0 then [Instr.stopTimeout h] else []) ++
    (if s.gauge.limit = some 0 then [Instr.gaugeFrameLimit] else []) ++
    if s.screen.backlight.dimTime ≠ 0 ∧ s.touch.dimmed = false ∧
        s.screen.backlight.dimTime * 1000 ≤ s.touch.dimTimer then
      [Instr.dimTimeout]
    else []

/-! ## What the feed begins -/

/-- A group with an order just sent: BUSY with it, its timer started from a timeout (R20, R22). -/
def started (o : Order) (timeout : Nat) : GroupContext :=
  { state := .busy o, jammed := none, timer := some timeout, limit := timeout }

/-- A group held for want of a slot or a record, with no order (R20, R30, R36). -/
def waiting (reason : HoldReason) : GroupContext :=
  { state := .held reason, jammed := none, timer := none, limit := 0 }

/-- The next slot in a side's direction of those that meet a condition: the lowest for BOTTOM_UP, the highest for
TOP_DOWN (R23, R24). -/
def NextSlot {α : Type} (d : Direction) (P : α → Prop) (slots : List α) (n : Nat) : Prop :=
  (∃ q, nth slots n = some q ∧ P q) ∧
    ∀ k q, nth slots k = some q → P q → match d with | .bottomUp => n ≤ k | .topDown => k ≤ n

/-- No unit of a strip in the window columns in force is PENDING or CLAIMED; a window that is CLOSED holds no column
(R34, R62; log 6). -/
def WindowDone (s : State) (r : Strip) : Prop :=
  s.arbiter.window = .closed ∨ ∃ a b, s.arbiter.window = .opened a b ∧
    ∀ c w u, r.entry c w = some u → a ≤ c → c ≤ b → u.state ≠ .pending ∧ ∀ h, u.state ≠ .claimed h

/-! ## What becomes of strips and tickets -/

/-- FEED_CLEAR of a group with a disposition: INPUT is group 1, TRACK 2, OUTPUT 3 (R39). -/
def clearing (d : Disposition) (tag : Nat) (g : Group) : Instr :=
  let code := match g with | .input => 1 | .track => 2 | .output => 3
  match d with
  | .completed => .feedClearCompleted tag code
  | .back => .feedClearBack tag code
  | .removed => .feedClearRemoved tag code

/-- A group holds an order, jammed or lost with its magazine. -/
def holdsOrder (s : State) (g : Group) (reason : HoldReason) (o : Order) : Prop :=
  (s.group g).state = .held reason ∧ (s.group g).jammed = some o

/-- The location of a strip that a zone holds (R6). -/
def zoneLocation : Zone → Location
  | .preheat => .preheat
  | .window => .window
  | .exit => .exit

/-- A strip lies in a zone: the zone holds it and its record says so (R6, R38). -/
def liesIn (s : State) (z : Zone) (id : Nat) (r : Strip) : Prop :=
  s.zoneStrip z = some id ∧ s.strip id = some r ∧ r.location = zoneLocation z

/-- The Store can make a record of the current program, under a number no strip has (R4). -/
def canPush (s : State) (p : Program) : Prop :=
  s.store.strips.length < 64 ∧ s.store.program ≠ 0 ∧ s.program s.store.program = some p ∧
    s.store.nextStrip < 4294967295 ∧ s.strip s.store.nextStrip = none

/-- A strip has been pushed in from a slot with a map: PREHEAT holds a new record of the next number, with the current
lot and program, SKIP where the map names a unit and PENDING elsewhere, and the soak is begun (R4, R5, R31, R32). -/
def PushedIn (s t : State) (p : Program) (slot : Nat) (skip : List Pos) : Prop :=
  t.feed.preheat = some s.store.nextStrip ∧ t.store.nextStrip = s.store.nextStrip + 1 ∧
    t.feed.soak = (if p.active.soak = 0 then .elapsed else .running (p.active.soak * 1000)) ∧
    t.link.flags &&& 0x040 = 0x040 ∧
    ∃ r, t.strip s.store.nextStrip = some r ∧ r.id = s.store.nextStrip ∧ r.lot = s.store.lot ∧ r.slot = slot ∧
      r.program = p.id ∧ r.generation = none ∧ r.location = .preheat ∧ r.nextColumn = 1 ∧
      r.columns = p.active.columns ∧ r.rows = p.active.rows ∧
      (∀ c w, 1 ≤ c → c ≤ p.active.columns → 1 ≤ w → w ≤ p.active.rows →
        r.entry c w = some
          { state := if ({ column := c, row := w } : Pos) ∈ skip then .skip else .pending
            wiresDone := 0, fault := none, pull := none }) ∧
      r.counts = { skip := (r.units.filter fun u => u.state == .skip).length
                   pending := (r.units.filter fun u => u.state == .pending).length
                   claimed := 0, bonded := 0, fault := 0, rework := 0, reject := 0 }

/-- A strip has been taken off the machine by hand: DEPARTED, at rest, its PENDING units REWORK with kind REMOVED and
wire 0, the STRIP flag set (R6, R15). -/
def TakenOff (t : State) (id : Nat) (r : Strip) : Prop :=
  t.link.flags &&& 0x040 = 0x040 ∧
    ∃ q, t.strip id = some q ∧ q.location = .departed ∧ q.inMotion = false ∧
      ∀ c w u, r.entry c w = some u → ∃ v, q.entry c w = some v ∧ v.wiresDone = u.wiresDone ∧
        if u.state = .pending then v.state = .rework ∧ v.fault = some { wire := 0, kind := .removed }
        else v.state = u.state ∧ v.fault = u.fault

/-- Window-left has been signalled: every pending ticket has one strip less to wait for; one that had 1 or none is out
of the list, its BONDED unit's pull part EXPIRED, the TICKET flag set; and each class has taken one notice for every
such ticket that held an unreported wire of it: none leaves it, one takes PROVING and WATCH to LAPSED(OVERDUE) and
QUALIFIED to WATCH, more take every state but LAPSED to LAPSED(OVERDUE) (R35, R129, R148). -/
def WindowLeft (s t : State) : Prop :=
  (s.quality.tickets.map Ticket.number).Nodup →
    t.quality.tickets = (s.quality.tickets.filter fun k => decide (2 ≤ k.remaining)).map
      (fun k => { k with remaining := k.remaining - 1 }) ∧
    (∀ k ∈ s.quality.tickets, k.remaining ≤ 1 → t.link.flags &&& 0x020 = 0x020 ∧
      ∀ u, s.unit k.strip k.column k.row = some u → u.state = .bonded → u.pull = some (.ticketed .pending k.number) →
        t.unit k.strip k.column k.row = some { u with pull := some (.ticketed .expired k.number) }) ∧
    ∀ id c, s.cls id = some c →
      let notices := (s.quality.tickets.filter fun k => decide (k.remaining ≤ 1) && k.awaits id).length
      ∃ d, t.cls id = some d ∧ d.state =
        if notices = 0 then c.state
        else
          match c.state with
          | .lapsed r => .lapsed r
          | .qualified => if notices = 1 then .watch else .lapsed .overdue
          | _ => .lapsed .overdue

/-! ## What the arbiter may grant -/

/-- A unit that head h may be granted: PENDING, in a column in force, and clear of the other head's claim (R65). -/
def Candidate (s : State) (h : HeadId) (r : Strip) (c w : Nat) : Prop :=
  (∃ u, r.entry c w = some u ∧ u.state = .pending) ∧ s.inForce c = true ∧
    ∀ d, (s.head (otherHead h)).claim = some d → apart s.arbiter.clearance c d.column = true

/-- The first unit in unit order of those that meet a condition: by column, within a column by row. -/
def FirstUnit (P : Nat → Nat → Prop) (c w : Nat) : Prop :=
  P c w ∧ ∀ c' w', P c' w' → c < c' ∨ (c = c' ∧ w ≤ w')

/-- The class passes the class gate: QUALIFIED, WATCH, or PROVING with budget left (R66). -/
def passes (k : WireClass) : Prop := k.state = .qualified ∨ k.state = .watch ∨ (k.state = .proving ∧ 0 < k.budget)

/-- The unit at (c, w) of a strip has been granted to a head: it is CLAIMED with no wire done and no parts, and the head
holds the claim, at wire 1, with the wire count of the moment (R9, R71, R81). -/
def Granted (s t : State) (h : HeadId) (id c w : Nat) : Prop :=
  (∃ v, t.unit id c w = some v ∧ v.state = .claimed h ∧ v.wiresDone = 0 ∧ v.fault = none ∧ v.pull = none) ∧
    ∃ k, (t.head h).claim = some k ∧ k.strip = id ∧ k.column = c ∧ k.row = w ∧ k.wire = 1 ∧ k.touched = false ∧
      k.wireCount = (s.copyOfStrip id).wires.length ∧
      (t.head h).resume = some { wire := 1, entry := .start }

/-- The request of a head that has given its claim up has been decided, the other head asking for nothing: it is stalled
for NO_UNIT with the window CLOSED, for INDEX with it INDEXING; with the window open, for NO_UNIT when no candidate
stands, HEATER when the gate fails, CLASS when a class the program uses is LAPSED; with every class QUALIFIED or in
WATCH the first candidate in unit order is granted (R64, R65, R66, R69, R71). -/
def Decided (s t : State) (h : HeadId) : Prop :=
  (s.arbiter.window = .closed → (t.head h).state = .stalled .noUnit) ∧
    (s.arbiter.window = .indexing → (t.head h).state = .stalled .index) ∧
    ∀ id r, (∃ a b, s.arbiter.window = .opened a b) → liesIn s .window id r →
      ((∀ c w, ¬ Candidate s h r c w) → (t.head h).state = .stalled .noUnit) ∧
      ∀ c w, FirstUnit (Candidate s h r) c w →
        (s.heater.gate ≠ .pass → (t.head h).state = .stalled .heater) ∧
        (s.heater.gate = .pass →
          (∃ x ∈ (s.copyOfStrip id).wires, ∀ k, s.cls x.cls = some k → ∃ q, k.state = .lapsed q) →
          (t.head h).state = .stalled .cls) ∧
        (s.heater.gate = .pass → (s.copyOfStrip id).wires ≠ [] →
          (∀ x ∈ (s.copyOfStrip id).wires, ∃ k, s.cls x.cls = some k ∧ (k.state = .qualified ∨ k.state = .watch)) →
          Granted s t h id c w)

/-! ## The ends of claims -/

/-- The admission record of a claim that ended without its unit being bonded is discarded, and each class of it that is
PROVING below its proving units has one of its budget back; no other class changes (R72). Told where the other head has
no standing request, which could take from the budget at once. -/
def BudgetBack (s t : State) (h : HeadId) : Prop :=
  ∀ proving, s.admission h = some proving → proving.Nodup → (s.head (otherHead h)).asks = false →
    t.admission h = none ∧
      ∀ x k, s.cls x = some k → t.cls x = some
        (if x ∈ proving ∧ k.state = .proving ∧ k.budget < k.settings.provingUnits then
          { k with budget := k.budget + 1 } else k)

/-- A claimed unit with no wire done and no touchdown is PENDING again, or is claimed at once by the other head where
that head asks (R12, R69). -/
def PendingAgain (s t : State) (h : HeadId) (c : Claim) (u : UnitEntry) : Prop :=
  ∃ v, t.unit c.strip c.column c.row = some v ∧ v.fault = none ∧
    ((s.head (otherHead h)).asks = false → v = { u with state := .pending, fault := none })

/-- What the end of ABORTING makes of a head's claim of a unit. After a timeout with no touchdown the claim is kept, to
start the wire again. Else it is given up: REWORK with the wire and the kind when a touchdown was made or a wire is
done, PENDING otherwise, with the proving budget back (R12, R72, R95). -/
def AbortingEnded (s t : State) (h : HeadId) (cause : AbortCause) (c : Claim) (u : UnitEntry) : Prop :=
  if cause = .timeout ∧ c.touched = false then
    (t.head h).claim = some c ∧ (t.head h).resume = some { wire := c.wire, entry := .start } ∧
      t.unit c.strip c.column c.row = some u
  else
    (t.head h).claim = none ∧ (t.head h).resume = none ∧ BudgetBack s t h ∧
      if c.touched = true ∨ u.wiresDone ≠ 0 then
        t.unit c.strip c.column c.row = some { u with
          state := .rework
          fault := some { wire := c.wire, kind := if cause = .abort then .abort else .timeout } }
      else PendingAgain s t h c u

/-- The head as RESUME takes it: consecutive fault units 0 from MISS_RUN, the spark wire 0 from SPARK (R99). -/
def resumed (r : Head) (reason : HeldReason) : Head :=
  { r with faultRun := if reason = .missRun then 0 else r.faultRun
           sparkWire := if reason = .spark then 0 else r.sparkWire }

/-- The events that a step of a wire waits for; each in its order within a bond step (R84, R86). -/
def awaited (h : HeadId) : Step → List Instr
  | .openSpark | .bumpSpark | .endSpark => [.sparkOk h, .sparkOpen h]
  | .seekFirst | .looping | .bumpSeek => [.atPosition h]
  | .firstBond .contact | .secondBond .contact | .bump .contact => [.contact h]
  | .firstBond .bondDone | .secondBond _ | .bump _ => [.bondDone h]
  | .firstBond .attach | .tail | .bumpTail => [.attached h, .detached h]

/-! ## Where a change of a program lands -/

/-- A program with a changed copy: the staged copy while it is in use or staging, else the active copy at once, its
generation advanced by one, wrapping (R48, R49, R50). -/
def landed (s : State) (p : Program) (c : ProgramCopy) : Program :=
  if s.inUse p.id = true ∨ p.staged.isSome = true then { p with staged := some c }
  else { p with active := c, generation := if p.generation < 65535 then p.generation + 1 else 0 }

/-- Wire memory covers the change: what all programs then use is at most 4,096 records (R47, R50). -/
def Fits (s : State) (p : Program) (c : ProgramCopy) : Prop :=
  recordsUsed s.programs + (landed s p c).records ≤ 4096 + p.records

/-- A request to the wires of a program has been taken: its copy is changed where it lands, and nothing else is. -/
def Landed (s t : State) (kind tag : Nat) (p : Program) (c : ProgramCopy) : Prop :=
  t.program p.id = some (landed s p c) ∧ (∀ k, k ≠ p.id → t.program k = s.program k) ∧
    t = { replied s tag kind 6 (plain .ok) with programs := t.programs }

/-! ## The operator's actions -/

/-- A press issues an operator action: the part does what the same request from the host does, the record link left out.
An action taken leaves the touch record; a refused one is recorded with its status and counted, and sets the TOUCH flag
(R14, R170, R171, R172). -/
def Issues (s t : State) (pressed : Touch) (panel : Nat) (action : TouchAction) (request : Instr) : Prop :=
  ∃ u r a, exec request { s with touch := pressed, link := { s.link with request := none } } = .next u ∧
    u.link.request = some r ∧ r.answer = some a ∧
    t = { u with
      touch := if a.status = .ok then pressed else
        { pressed with refused := some { panel, action, status := a.status }, refusals := count16 pressed.refusals }
      link := { s.link with flags := if a.status = .ok then u.link.flags else u.link.flags ||| 0x080 }
      out := { u.out with linkStatus := none, linkFill := none } }

/-! ## The stale panels -/

/-- With an operation in flight, which goes on, the visible panels that show what a condition says join the stale set,
and no other panel does (R157, R158, R159). -/
def Marked (s t : State) (P : PanelKind → Prop) : Prop :=
  s.screen.operation ≠ none → t.screen.operation = s.screen.operation ∧
    ∀ n, n ∈ t.screen.stale ↔
      n ∈ s.screen.stale ∨ ∃ a ∈ s.screen.active, a.panel.number = n ∧ a.panel.visible = true ∧ P a.panel.kind

/-- The panels that show a strip: bound to its id, or to a zone in which it lies (R158). -/
def showsStrip (s : State) (id : Nat) (k : PanelKind) : Prop :=
  k = .stripMap id ∨ ∃ z, k = .zoneMap z ∧ s.zoneStrip z = some id

/-- The panel n has an active record that differs from its staged one, so that a frame start applies it (R156). -/
def Changed (s : State) (n : Nat) : Prop :=
  n ≤ 15 ∧ (s.panel n).map ActivePanel.panel ≠ findBy Panel.number n s.screen.staged

/-- Two records have one rectangle. -/
def sameRectangle (p q : Panel) : Prop := p.x = q.x ∧ p.y = q.y ∧ p.width = q.width ∧ p.height = q.height

/-- A frame start clears a pixel: it lies in the old effective rectangle of a panel that was visible and is retired or
made not visible, or whose rectangle changes (R156, step 1). -/
def Cleared (s : State) (x y : Nat) : Prop :=
  ∃ n a, n ≤ 15 ∧ s.panel n = some a ∧ a.panel.covers x y = true ∧
    ((findBy Panel.number n s.screen.staged = none ∧ a.panel.visible = true) ∨
      ∃ p, findBy Panel.number n s.screen.staged = some p ∧
        ((a.panel.visible = true ∧ p.visible = false) ∨ ¬ sameRectangle a.panel p))

/-- The panel n is stale once a frame start has applied the staged copy: it is visible then, and was stale, or is
changed, or overlaps the old or the new rectangle of a panel that was created or retired, or whose rectangle or visible
flag changed (R156, step 3; R157). -/
def StaleAfterFrame (s t : State) (n : Nat) : Prop :=
  ∃ a, t.panel n = some a ∧ a.panel.visible = true ∧
    (n ∈ s.screen.stale ∨ Changed s n ∨
      ∃ m, Changed s m ∧
        (∀ b q, s.panel m = some b → findBy Panel.number m s.screen.staged = some q →
          ¬ sameRectangle b.panel q ∨ b.panel.visible ≠ q.visible) ∧
        ((∃ b, s.panel m = some b ∧ a.panel.overlaps b.panel = true) ∨
          ∃ q, findBy Panel.number m s.screen.staged = some q ∧ a.panel.overlaps q = true))

/-- A picture without cells draws its lines on its background: line k from 0 at 16 × k, its glyph j at 8 × j, in the
foreground index; a code outside 32 to 126 draws nothing (R160). -/
def DrawsLines (pic : Picture) : Prop :=
  ∀ px py,
    let set := ∃ codes code, pic.lines[py / 16]? = some codes ∧ codes[px / 8]? = some code ∧ 32 ≤ code ∧ code ≤ 126 ∧
      Config.glyphPixel code (px % 8) (py % 16) = true
    (set → pic.index px py = pic.panel.foreground) ∧ (¬ set → pic.index px py = pic.panel.background)

/-- The index of a pixel of a strip map: in the cell of a unit, less its last column and row of pixels, the index of the
unit's state, at the outermost pixels the border of a pull part PENDING or DONE; else the background (R161). -/
def mapIndex (m : ColourMap) (p : Panel) (r : Strip) (px py : Nat) : Nat :=
  let w := p.effWidth / r.columns
  let h := p.effHeight / r.rows
  match r.entry (px / w + 1) (py / h + 1) with
  | none => p.background
  | some u =>
    if px % w + 1 < w ∧ py % h + 1 < h then
      let edge := px % w = 0 ∨ py % h = 0 ∨ px % w + 2 = w ∨ py % h + 2 = h
      match u.pull with
      | some (.ticketed .pending _) => if edge then m.pullPending else m.ofState u.state
      | some (.ticketed .done _) => if edge then m.pullDone else m.ofState u.state
      | _ => m.ofState u.state
    else p.background

/-- A render that begins on a panel shows the panel's record and its bound record as they stand: the strip, its counts
where its cells would be less than 2 wide or tall, or that there is none; the head; the classes of the page; the
tickets; the slots; the text, broken at the right edge; nothing on a CANVAS (R160, R161, R162; log 26). -/
def Shows (t : State) (p : Panel) (pic : Picture) : Prop :=
  pic.panel = p ∧ (pic.cells = [] → DrawsLines pic) ∧
    match p.kind with
    | .zoneMap _ | .stripMap _ =>
      (t.shownStrip p.kind = none → pic.cells = [] ∧ pic.lines = [codesOf "NO STRIP"]) ∧
        ∀ r, t.shownStrip p.kind = some r →
          (p.effWidth / r.columns < 2 ∨ p.effHeight / r.rows < 2 → pic.cells = [] ∧ pic.lines =
            [spaced [decimal r.id, codesOf "S" ++ decimal r.counts.skip, codesOf "P" ++ decimal r.counts.pending,
              codesOf "C" ++ decimal r.counts.claimed, codesOf "B" ++ decimal r.counts.bonded,
              codesOf "F" ++ decimal r.counts.fault, codesOf "W" ++ decimal r.counts.rework,
              codesOf "J" ++ decimal r.counts.reject]]) ∧
          (2 ≤ p.effWidth / r.columns → 2 ≤ p.effHeight / r.rows →
            ∀ px py, px < p.effWidth → py < p.effHeight → pic.index px py = mapIndex t.screen.colours p r px py)
    | .head h =>
      pic.cells = [] ∧ pic.lines =
        [spaced [codesOf "HEAD", decimal (headNumber h), codesOf (t.head h).state.name], (t.head h).state.why,
         (match (t.head h).claim with
          | some c => spaced [decimal c.strip, decimal c.column, decimal c.row]
          | none => codesOf "NO CLAIM"),
         decimal (t.head h).capillary.count ++ codesOf "/" ++ decimal (t.head h).capillary.life]
    | .classPage page =>
      pic.cells = [] ∧ pic.lines.length = 9 ∧
        pic.lines[0]? = some (spaced [codesOf "CLASSES", decimal (8 * (page - 1) + 1), decimal (8 * page)]) ∧
        ∀ k, k < 8 → pic.lines[k + 1]? = some
          (match t.cls (8 * (page - 1) + k + 1) with
          | none => decimal (8 * (page - 1) + k + 1)
          | some c => spaced ([decimal (8 * (page - 1) + k + 1)] ++ c.state.texts ++
              [match c.ewma with
               | none => codesOf "---"
               | some e => decimal (e / 160) ++ codesOf "." ++ decimal (e / 16 % 10)]))
    | .tickets =>
      pic.cells = [] ∧ pic.lines = spaced [decimal t.quality.tickets.length, codesOf "PENDING"] ::
        (t.quality.tickets.take 6).map fun k =>
          spaced [decimal k.number, decimal k.strip, decimal k.column, decimal k.row,
            decimal (k.wires.filter TicketWire.reported).length ++ codesOf "/" ++ decimal k.wires.length,
            decimal k.remaining]
    | .magazine side =>
      let chars := match side with
        | .input => t.feed.inSlots.map fun q : InSlot => q.state.char
        | .output => t.feed.outSlots.map OutSlot.char
      let present := t.present (match side with | .input => .input | .output => .output)
      pic.cells = [] ∧ pic.lines =
        [spaced [codesOf (match side with | .input => "INPUT" | .output => "OUTPUT"),
          codesOf (if present = true then "PRESENT" else "ABSENT")], chars.take 20, (chars.drop 20).take 20]
    | .text =>
      pic.cells = [] ∧ (p.text.length ≤ 64 → 1 ≤ p.effWidth →
        pic.lines.flatten = p.text ∧
          ∀ k codes, pic.lines[k]? = some codes → codes ≠ [] ∧ codes.length ≤ (p.effWidth + 7) / 8 ∧
            (k + 1 < pic.lines.length → codes.length = (p.effWidth + 7) / 8))
    | .canvas => pic.cells = [] ∧ pic.lines = []

/-- The engine's choice with a set of panels stale: the oldest draw of the queue; with none, the least stale panel,
which leaves the set and shows its record as it stands; with neither it is idle, and RENDER is set (R159, R160). -/
def Chosen (s t : State) (stale : Nat → Prop) : Prop :=
  match s.screen.queue with
  | d :: rest =>
    t.screen.operation = some (.draw d ((s.panel d.panel).map ActivePanel.panel)) ∧ t.screen.queue = rest ∧
      ∀ n, n ∈ t.screen.stale ↔ stale n
  | [] =>
    t.screen.queue = [] ∧
      (∀ n, stale n → (∀ m, stale m → n ≤ m) →
        ∃ a pic, s.panel n = some a ∧ t.screen.operation = some (.render pic) ∧ Shows t a.panel pic ∧
          ∀ m, m ∈ t.screen.stale ↔ stale m ∧ m ≠ n) ∧
      ((∀ n, ¬ stale n) →
        t.screen.operation = none ∧ t.screen.stale = [] ∧ t.link.flags &&& 0x100 = 0x100)

/-! ## Invariants -/

/-- Frame memory is in its canonical form (R152). -/
def FrameOk (s : State) : Prop := Memory.wf s.screen.frame = true

/-- No table holds more than the manual gives it room for: 64 strip records, 4,096 wire records, 32 tickets, 8 draws;
and no two programs carry one id (R1, R44, R47, R143, R163). -/
def TablesOk (s : State) : Prop :=
  s.store.strips.length ≤ Config.maxStrips ∧ recordsUsed s.programs ≤ Config.wireMemory ∧
    s.quality.tickets.length ≤ Config.maxTickets ∧ s.screen.queue.length ≤ Config.maxDraws ∧
    (s.programs.map Program.id).Nodup

/-- The average law for one class: its EWMA, when it has one, lies between 16 times its least and 16 times its greatest
result, and no result exceeds 2,000 (R133, R122). -/
def AverageLaw (c : WireClass) : Prop :=
  (∀ e, c.ewma = some e → ∃ l g, c.least = some l ∧ c.greatest = some g ∧ 16 * l ≤ e ∧ e ≤ 16 * g) ∧
    (∀ g, c.greatest = some g → g ≤ 2000)

/-- Every class in the table is consistent with its settings in range (R117), and keeps the average law (R133). -/
def ClassesOk (s : State) : Prop :=
  ∀ c ∈ s.quality.classes, classOk c.settings = true ∧ AverageLaw c

/-- A bond order carries a power of 0 to 1,000 and a force of 5 to 250; any other order carries neither (R114, R117). -/
def orderOk : HeadOrder → Prop
  | .firstBond power force _ => power ≤ 1000 ∧ 5 ≤ force ∧ force ≤ 250
  | .secondBond power force _ => power ≤ 1000 ∧ 5 ≤ force ∧ force ≤ 250
  | .bump power force _ => power ≤ 1000 ∧ 5 ≤ force ∧ force ≤ 250
  | _ => True

/-- Every order the last command put on a head link is in range. -/
def OrdersOk (s : State) : Prop := (∀ o ∈ s.out.head1, orderOk o) ∧ ∀ o ∈ s.out.head2, orderOk o

/-- The power, force and time of a bond order. -/
def bondValues : HeadOrder → Option (Nat × Nat × Nat)
  | .firstBond power force time => some (power, force, time)
  | .secondBond power force time => some (power, force, time)
  | .bump power force time => some (power, force, time)
  | _ => none

/-- Every wire of every copy of every program lies in its ranges (R46). -/
def WiresOk (s : State) : Prop :=
  ∀ p ∈ s.programs, (∀ w ∈ p.active.wires, wireOk w = true) ∧
    ∀ c, p.staged = some c → ∀ w ∈ c.wires, wireOk w = true

/-- No two classes carry one id, and no class has more budget than its proving units (R116, R132). -/
def BudgetsOk (s : State) : Prop :=
  (s.quality.classes.map WireClass.id).Nodup ∧ ∀ c ∈ s.quality.classes, c.budget ≤ c.settings.provingUnits

/-! ## The keys of the tables -/

/-- Numbers that strictly rise. -/
def Rising (ns : List Nat) : Prop := ns.Pairwise (· < ·)

/-- Strip ids rise, and each was assigned before the number that comes next (R1, R3). -/
def StripKeysOk (s : State) : Prop :=
  Rising (s.store.strips.map Strip.id) ∧ 1 ≤ s.store.nextStrip ∧
    ∀ r ∈ s.store.strips, 1 ≤ r.id ∧ r.id < s.store.nextStrip

/-- The keys of every table rise within their ranges: 16 programs, 24 loop shapes, 32 classes, panels 0 to 15 in either
copy, 1 to 40 slots a side (R23, R24, R28, R44, R59, R116, R154). -/
def KeysOk (s : State) : Prop :=
  StripKeysOk s ∧
    (Rising (s.programs.map Program.id) ∧ (∀ p ∈ s.programs, 1 ≤ p.id ∧ p.id ≤ 16) ∧ s.programs.length ≤ 16) ∧
    s.loops.length = 24 ∧
    (Rising (s.quality.classes.map WireClass.id) ∧ (∀ c ∈ s.quality.classes, 1 ≤ c.id ∧ c.id ≤ 32) ∧
      s.quality.classes.length ≤ 32) ∧
    (Rising (s.screen.staged.map Panel.number) ∧ (∀ p ∈ s.screen.staged, p.number ≤ 15) ∧
      s.screen.staged.length ≤ 16) ∧
    (Rising (s.screen.active.map fun a => a.panel.number) ∧ (∀ a ∈ s.screen.active, a.panel.number ≤ 15) ∧
      s.screen.active.length ≤ 16) ∧
    (1 ≤ s.feed.inSlots.length ∧ s.feed.inSlots.length ≤ 40) ∧
    (1 ≤ s.feed.outSlots.length ∧ s.feed.outSlots.length ≤ 40)

/-- The active panels stand in rising number; the stale set holds numbers of visible ones, each once, in rising order
(R155, R157). -/
def StaleOk (s : State) : Prop :=
  Rising (s.screen.active.map fun a => a.panel.number) ∧ Rising s.screen.stale ∧
    ∀ n ∈ s.screen.stale, ∃ a, s.panel n = some a ∧ a.panel.visible = true

/-- The pending tickets rise in number, each below the number that comes next, with 1 to 64 wires in ascending index; a
ticket's unit carries the PENDING pull part of its number, a PENDING pull part names a ticket of the list, and a unit
with a pull part is BONDED (R7, R141, R142, R143, R144). -/
def TicketsOk (s : State) : Prop :=
  Rising (s.quality.tickets.map Ticket.number) ∧
    (∀ t ∈ s.quality.tickets, t.number < s.quality.nextTicket ∧ t.wires ≠ [] ∧ t.wires.length ≤ 64 ∧
      Rising (t.wires.map TicketWire.wire) ∧
      ∃ u, s.unit t.strip t.column t.row = some u ∧ u.pull = some (.ticketed .pending t.number)) ∧
    (∀ id c r u n, s.unit id c r = some u → u.pull = some (.ticketed .pending n) →
      ∃ t ∈ s.quality.tickets, t.number = n ∧ t.strip = id ∧ t.column = c ∧ t.row = r) ∧
    ∀ id c r u, s.unit id c r = some u → u.pull ≠ none → u.state = .bonded

/-! ## The track and the claims -/

/-- Each zone holds at most one strip, the strips on the track are the strips of the zones, and a FILLED slot holds a
strip whose location is that slot (R6, R37, R38). -/
def PlacesOk (s : State) : Prop :=
  (∀ z id, s.zoneStrip z = some id → ∃ r, s.strip id = some r ∧ r.location = zoneLocation z) ∧
    (∀ r ∈ s.store.strips, ∀ z, r.location = zoneLocation z → s.zoneStrip z = some r.id) ∧
    ∀ n id, nth s.feed.outSlots n = some (.filled id) → ∃ r, s.strip id = some r ∧ r.location = .output n

/-- The map of every strip has an entry for each unit of its grid, and its seven counts are the numbers of its units in
each state, so that they sum to columns × rows (R7, R8). -/
def CountsOk (s : State) : Prop :=
  ∀ r ∈ s.store.strips, r.units.length = r.columns * r.rows ∧
    r.counts =
      { skip := (r.units.filter fun u => u.state == .skip).length
        pending := (r.units.filter fun u => u.state == .pending).length
        claimed := (r.units.filter fun u => u.state == .claimed .one || u.state == .claimed .two).length
        bonded := (r.units.filter fun u => u.state == .bonded).length
        fault := (r.units.filter fun u => u.state == .fault).length
        rework := (r.units.filter fun u => u.state == .rework).length
        reject := (r.units.filter fun u => u.state == .reject).length }

/-- Every strip record names a program in the table, and the strip in WINDOW has latched the generation that its program
has (R55, R56, R58). -/
def GenerationsOk (s : State) : Prop :=
  (∀ r ∈ s.store.strips, s.program r.program ≠ none) ∧
    ∀ id r p, s.feed.window = some id → s.strip id = some r → s.program r.program = some p →
      r.generation = some p.generation

/-- The active copy and the generation of the program of the strip in WINDOW stay while the strip lies there (R58). -/
def BondedUnderOne (s t : State) : Prop :=
  ∀ id r p, s.feed.window = some id → t.feed.window = some id → s.strip id = some r → s.program r.program = some p →
    ∃ q, t.program r.program = some q ∧ q.active = p.active ∧ q.generation = p.generation

/-- No FIRST BOND has been sent for a wire whose class is LAPSED; and where a unit has become CLAIMED, the gate passes
and no class its program uses is LAPSED (R66, R76). -/
def ClassLaw (s t : State) : Prop :=
  (∀ h power force time, .firstBond power force time ∈ sent t h →
    ∃ c, (s.head h).claim = some c ∧ ∀ k, s.cls (s.claimWire c).cls = some k → ∀ q, k.state ≠ .lapsed q) ∧
    ∀ h id c w v, t.unit id c w = some v → v.state = .claimed h →
      (∀ u, s.unit id c w = some u → u.state ≠ .claimed h) →
      t.heater.gate = .pass ∧
        ∀ x ∈ (t.copyOfStrip id).wires, ∃ k, t.cls x.cls = some k ∧ ∀ q, k.state ≠ .lapsed q

/-- An order a group has in flight, or holds as its jammed or lost order. -/
def Carries (c : GroupContext) (o : Order) : Prop := c.state = .busy o ∨ c.jammed = some o

/-- A group carries orders of its own alone; a push-in has PREHEAT empty, a window entry WINDOW, an exit EXIT; and while
an index is carried the window is INDEXING, while an exit is, CLOSED (R20, R30, R33, R34, R35, R62). -/
def OrdersInPlace (s : State) : Prop :=
  (∀ o, Carries s.feed.input o →
    o = .scan ∨ ((∃ n, o = .elevate n ∨ o = .push n) ∧ s.feed.preheat = none)) ∧
    (∀ o, Carries s.feed.output o → o = .scan ∨ ∃ n, o = .elevate n ∨ o = .push n) ∧
    ∀ o, Carries s.feed.track o →
      (o = .transferPreheat ∧ s.feed.window = none) ∨ ((∃ n, o = .index n) ∧ s.arbiter.window = .indexing) ∨
        (o = .transferWindow ∧ s.feed.exit = none ∧ s.arbiter.window = .closed)

/-- A claim is of a unit CLAIMED by its head, on the strip in WINDOW, in a column in force; and the claims of both heads
keep the clearance (R74, R75, R77). -/
def ClaimsOk (s : State) : Prop :=
  (∀ h c, (s.head h).claim = some c →
    (∃ u, s.unit c.strip c.column c.row = some u ∧ u.state = .claimed h) ∧ s.feed.window = some c.strip ∧
      s.inForce c.column = true) ∧
    ∀ c d, s.head1.claim = some c → s.head2.claim = some d → apart s.arbiter.clearance c.column d.column = true

/-- The strips, the track and the claims agree. -/
def PartOk (s : State) : Prop := StripKeysOk s ∧ PlacesOk s ∧ OrdersInPlace s ∧ ClaimsOk s

/-- The touchdowns a wire in progress has still to make, by its step: two, or three with a bump, less those made
(R84, R85, R88). -/
def touchdownsLeft (bump : Bool) : Step → Nat
  | .openSpark | .seekFirst | .firstBond .contact => 2 + bump.toNat
  | .firstBond _ | .looping | .secondBond .contact => 1 + bump.toNat
  | .secondBond _ | .tail => bump.toNat
  | .bumpSpark | .bumpSeek | .bump .contact => 1
  | .bump _ | .bumpTail | .endSpark => 0

/-- N never exceeds L, nor will it when the wire in progress has made its touchdowns (R88). -/
def CapillaryOk (s : State) : Prop :=
  ∀ h, (s.head h).capillary.count ≤ (s.head h).capillary.life ∧
    ∀ st c, (s.head h).state = .bonding ∨ (s.head h).state = .holding → (s.head h).step = some st →
      (s.head h).claim = some c →
      (s.head h).capillary.count + touchdownsLeft (s.claimWire c).bump.isSome st ≤ (s.head h).capillary.life

end Sys2Proof.Safety
end

