-- ==== Sys2Proof/Machine/Frames.lean ====
section
/-! DEFINITION. What the frames of the ports spell: the command of a request frame, and the events of the machinery
links (R178, R185, R188). The choices of form that the manual leaves open are log 17's and log 18's. -/

namespace Sys2Proof.Machine

/-! ## Reading bytes -/

/-- Reads a value from the front of a list of bytes; none when its form is wrong. -/
abbrev Reader := StateT (List Byte) Option

/-- The form is wrong. -/
def wrongForm {α : Type} : Reader α := fun _ => none

/-- The bytes of a count. -/
def takeBytes (n : Nat) : Reader (List Byte) := fun bs => if bs.length < n then none else some (bs.take n, bs.drop n)

/-- Every byte left. -/
def takeRest : Reader (List Byte) := fun bs => some (bs, [])

/-- A number of a count of bytes. -/
def number (width : Nat) : Reader Nat := numberOf <$> takeBytes width

/-- A signed number of one byte (R185). -/
def signed : Reader Int := do
  let n ← number 1
  return if n < 128 then (n : Int) else (n : Int) - 256

/-- A marker byte, 0 or 1. -/
def flag : Reader Bool := do
  match ← number 1 with
  | 0 => return false
  | 1 => return true
  | _ => wrongForm

/-- A view, ACTIVE 0 or STAGED 1. -/
def view : Reader View := do
  match ← number 1 with
  | 0 => return .active
  | 1 => return .staged
  | _ => wrongForm

/-- A count of values, read one after another. -/
def several {α : Type} (one : Reader α) : Nat → Reader (List α)
  | 0 => return []
  | n + 1 => do
    let a ← one
    let rest ← several one n
    return a :: rest

/-- A name or text. -/
def text : Reader (List Nat) := do several (number 1) (← number 1)

/-- A list with its 2-byte count. -/
def counted {α : Type} (one : Reader α) : Reader (List α) := do several one (← number 2)

/-- The fields of an AMEND to the end of the frame: each a code and its value, no code twice; the fuel bounds them. -/
def fields {F : Type} (one : Nat → Reader F) : Nat → List Nat → Reader (List F)
  | 0, _ => fun bs => if bs.isEmpty then some ([], []) else none
  | fuel + 1, seen => fun bs =>
    if bs.isEmpty then some ([], [])
    else
      (do
        let code ← number 1
        if seen.contains code then wrongForm
        else
          let f ← one code
          let rest ← fields one fuel (code :: seen)
          return f :: rest) bs

/-- The fields of an AMEND. -/
def allFields {F : Type} (one : Nat → Reader F) : Reader (List F) := fun bs => fields one bs.length [] bs

/-- The first n fields of a record in their order, without codes, as a PUT carries them (R185). -/
def inOrder {F : Type} (one : Nat → Reader F) : Nat → Reader Unit
  | 0 => return ()
  | n + 1 => do
    inOrder one n
    let _ ← one (n + 1)

/-- A part that may be absent: a presence byte, then its form, or zeros of the part's least width when absent
(R185, log 16). R185 has an absent value carried as 0; a part given as absent whose bytes are not 0 is taken as absent and
its bytes are not read: DESIGN CHOICE (log 17). -/
def present {α : Type} (width : Nat) (form : Reader α) : Reader (Option α) := do
  if ← flag then some <$> form
  else
    let _ ← takeBytes width
    return none

/-! ## Values of the records -/

def posReader : Reader Pos := return { column := ← number 1, row := ← number 1 }

/-- An optional incoming map. The entries of one given as absent are not read, 0 or not: DESIGN CHOICE (log 17). -/
def mapReader : Reader (Option (List Pos)) := do
  let present ← flag
  let m ← counted posReader
  return if present then some m else none

/-- An optional host tag. The bytes of one given as absent are not read, 0 or not: DESIGN CHOICE (log 17). -/
def tagReader : Reader (Option Nat) := do
  let present ← flag
  let t ← number 4
  return if present then some t else none

def filterReader : Reader Filter := return { value := ← number 2, mask := ← number 2, enabled := ← flag }

def pointReader : Reader Point := return { x := ← number 2, y := ← number 2, z := ← number 2 }

def bondSetReader : Reader BondSet := return { power := ← number 2, force := ← number 1, time := ← number 2 }

/-- The record of a PUT of PROGRAM; its id must equal the key's (log 17). -/
def programReader (id : Nat) : Reader ProgramBody := do
  if (← number 1) ≠ id then wrongForm
  else
    return { name := ← text, columns := ← number 1, rows := ← number 1, pitchX := ← number 2, pitchY := ← number 2,
             soak := ← number 1, plan := { period := ← number 2, offset := ← number 2, run := ← number 2 },
             filter1 := ← filterReader, filter2 := ← filterReader, filter3 := ← filterReader,
             filter4 := ← filterReader }

/-- A field of the program record, in the order of R44: each value of the plan has its own code (R185). Each selection
filter, a value with its mask and its flag, is one code: DESIGN CHOICE (log 17). -/
def programField : Nat → Reader ProgramField
  | 1 => do let _ ← number 1; return .id
  | 2 => .name <$> text
  | 3 => .columns <$> number 1
  | 4 => .rows <$> number 1
  | 5 => .pitchX <$> number 2
  | 6 => .pitchY <$> number 2
  | 7 => .soak <$> number 1
  | 8 => do let _ ← number 2; return .wireCount
  | 9 => do let _ ← number 2; return .generation
  | 10 => do let _ ← flag; return .stagedFlag
  | 11 => do let _ ← counted (number 1); return .classesUsed
  | 12 => .period <$> number 2
  | 13 => .offset <$> number 2
  | 14 => .run <$> number 2
  | 15 => .filter1 <$> filterReader
  | 16 => .filter2 <$> filterReader
  | 17 => .filter3 <$> filterReader
  | 18 => .filter4 <$> filterReader
  | _ => wrongForm

/-- The wire record body; its index must equal the key's (R186). -/
def wireReader (index : Nat) : Reader Wire := do
  if (← number 2) ≠ index then wrongForm
  else
    let cls ← number 1
    let first ← pointReader
    let second ← pointReader
    let loop ← number 1
    let firstBond ← bondSetReader
    let secondBond ← bondSetReader
    let tail ← number 2
    let present ← flag
    let b ← bondSetReader
    return { cls, first, second, loop, firstBond, secondBond, tail, bump := if present then some b else none }

/-- The bump part of an AMEND of WIRE: added with its bond set, added without one, or removed (R52). Presence byte 1 at
the end of the frame is the part added without a bond set, which R52 refuses BAD_FIELD: no rule gives that form, DESIGN
CHOICE (log 17). The bond set of a part removed is not read, 0 or not: DESIGN CHOICE (log 17). -/
def bumpField : Reader WireField := do
  let present ← flag
  if !present then
    let _ ← bondSetReader
    return .bumpRemove
  else fun bs => if bs.isEmpty then some (.bumpAdd none, []) else ((fun b => WireField.bumpAdd (some b)) <$> bondSetReader) bs

def wireField : Nat → Reader WireField
  | 1 => do let _ ← number 2; return .index
  | 2 => .cls <$> number 1
  | 3 => .firstX <$> number 2
  | 4 => .firstY <$> number 2
  | 5 => .firstZ <$> number 2
  | 6 => .secondX <$> number 2
  | 7 => .secondY <$> number 2
  | 8 => .secondZ <$> number 2
  | 9 => .loop <$> number 1
  | 10 => .firstPower <$> number 2
  | 11 => .firstForce <$> number 1
  | 12 => .firstTime <$> number 2
  | 13 => .secondPower <$> number 2
  | 14 => .secondForce <$> number 1
  | 15 => .secondTime <$> number 2
  | 16 => .tail <$> number 2
  | 17 => bumpField
  | _ => wrongForm

def loopReader : Reader LoopBody :=
  return { height := ← number 2, reverse := ← number 2, kink := ← number 2, profile := ← number 1 }

def loopField : Nat → Reader LoopField
  | 1 => .height <$> number 2
  | 2 => .reverse <$> number 2
  | 3 => .kink <$> number 2
  | 4 => .profile <$> number 1
  | _ => wrongForm

def classReader : Reader ClassBody :=
  return { pMin := ← number 2, pMax := ← number 2, fMin := ← number 1, fMax := ← number 1, trim := ← signed,
           trimStep := ← number 1, missPolicy := ← number 1, pullMin := ← number 2, watchLevel := ← number 2,
           shift := ← number 1, bandWidth := ← number 1, provingUnits := ← number 1, resultsRequired := ← number 1,
           recovery := ← number 1 }

def classField : Nat → Reader ClassField
  | 1 => .pMin <$> number 2
  | 2 => .pMax <$> number 2
  | 3 => .fMin <$> number 1
  | 4 => .fMax <$> number 1
  | 5 => .trim <$> signed
  | 6 => .trimStep <$> number 1
  | 7 => .missPolicy <$> number 1
  | 8 => .pullMin <$> number 2
  | 9 => .watchLevel <$> number 2
  | 10 => .shift <$> number 1
  | 11 => .bandWidth <$> number 1
  | 12 => .provingUnits <$> number 1
  | 13 => .resultsRequired <$> number 1
  | 14 => .recovery <$> number 1
  | 15 | 18 | 20 | 21 => do let _ ← number 1; return .qualification
  | 16 => do let _ ← present 1 (number 1); return .qualification
  | 17 | 22 | 23 => do let _ ← present 2 (number 2); return .qualification
  | 19 => do let _ ← number 2; return .qualification
  | 39 => do let _ ← number 4; return .qualification
  | code => if 24 ≤ code ∧ code ≤ 38 then do let _ ← number 2; return .qualification else wrongForm

/-- A reason or cause: its code, then the drive fault code where the code is DRIVE's (log 16). -/
def reasonReader : Reader (Nat × Nat) := do
  let code ← number 1
  if code = 15 then return (code, ← number 1) else return (code, 0)

def claimReader : Reader ClaimBody :=
  return { strip := ← number 4, column := ← number 1, row := ← number 1, wireCount := ← number 2, wire := ← number 2,
           touched := ← flag, proving := ← counted (number 1) }

def resumeReader : Reader (Nat × Nat) := return (← number 2, ← number 1)

/-- A field of the head record, in the order of R78 with the nine statistics of R102: where a row names several fields
each takes its own code (R185). The claim context and the resume point are one code each: DESIGN CHOICE (log 17). -/
def headField : Nat → Reader HeadField
  | 1 => (.locked <| .state ·) <$> number 1
  | 2 => (.locked <| .step ·) <$> present 1 (number 1)
  | 3 => (.locked <| .reason ·) <$> present 1 reasonReader
  | 4 => (.locked <| .claim ·) <$> present 13 claimReader
  | 5 => (.locked <| .resume ·) <$> present 3 resumeReader
  | 6 => (.locked <| .sparkWire ·) <$> number 2
  | 7 => (.locked <| .sparkTry ·) <$> number 1
  | 8 => (.locked <| .ball ·) <$> number 1
  | 9 => (.locked <| .faultRun ·) <$> number 1
  | 10 => .positionTimeout <$> number 2
  | 11 => .bondTimeout <$> number 1
  | 12 => .sparkTimeout <$> number 1
  | 13 => (.locked <| .stopTimeout ·) <$> number 1
  | 14 => .sparkCurrent <$> number 1
  | 15 => .sparkTime <$> number 2
  | 16 => (.locked <| .serial ·) <$> number 2
  | 17 => .life <$> number 4
  | 18 => (.locked <| .count ·) <$> number 4
  | 19 => .wearInterval <$> number 4
  | 20 => .wearCap <$> number 1
  | 21 => .kP <$> number 1
  | 22 => .kF <$> number 1
  | 23 => (.locked <| .lifetime ·) <$> number 6
  | 33 => (.locked <| .latched ·) <$> number 1
  | code => if 24 ≤ code ∧ code ≤ 32 then (.locked <| .statistic (code - 24) ·) <$> number 2 else wrongForm

/-- A binding: its form byte and its value. A form byte above 5 has the form of a frame, and the owner refuses it
BAD_FIELD (R154); R185's "a code outside the lists above" would make it BAD_FRAME: DESIGN CHOICE (log 17). -/
def bindingReader : Reader BindingCode := return { form := ← number 1, value := ← number 4 }

/-- The record of a PUT of PANEL; its number must equal the key's (log 17). -/
def panelReader (n : Nat) : Reader PanelBody := do
  if (← number 1) ≠ n then wrongForm
  else
    return { kind := ← number 1, x := ← number 2, y := ← number 2, width := ← number 2, height := ← number 2,
             binding := ← bindingReader, background := ← number 1, foreground := ← number 1, blink := ← flag,
             period := ← number 1, visible := ← flag, text := ← text }

def panelField : Nat → Reader PanelField
  | 1 => do let _ ← number 1; return .number
  | 2 => .kind <$> number 1
  | 3 => .x <$> number 2
  | 4 => .y <$> number 2
  | 5 => .width <$> number 2
  | 6 => .height <$> number 2
  | 7 => .binding <$> bindingReader
  | 8 => .background <$> number 1
  | 9 => .foreground <$> number 1
  | 10 => .blink <$> flag
  | 11 => .period <$> number 1
  | 12 => .visible <$> flag
  | 13 => .text <$> text
  | 14 => do let _ ← flag; return .canvasCleared
  | _ => wrongForm

/-- The colour map entries in the order of R153. -/
def colourEntries : List ColourEntry :=
  [.skip, .pending, .claimed, .bonded, .fault, .rework, .reject, .pullPending, .pullDone]

def colourField (code : Nat) : Reader ColourField :=
  if 1 ≤ code ∧ code ≤ 16 then .palette (code - 1) <$> number 2
  else
    match colourEntries.drop (code - 17) with
    | e :: _ => if code = 0 then wrongForm else .map e <$> number 1
    | [] => wrongForm

def backlightField : Nat → Reader BacklightField
  | 1 => .level <$> number 1
  | 2 => .off <$> flag
  | 3 => .dimLevel <$> number 1
  | 4 => .dimTime <$> number 2
  | _ => wrongForm

/-- No table lists the fields of the attention record: the flags as one 2-byte field 1, the mask 2, the line 3 in the
order of R183 are the model's numbering, DESIGN CHOICE (log 17). -/
def attentionField : Nat → Reader AttentionField
  | 1 => do let _ ← number 2; return .flags
  | 2 => .mask <$> number 2
  | 3 => do let _ ← flag; return .line
  | _ => wrongForm

def inslotField : Nat → Reader InslotField
  | 1 => do let _ ← number 1; return .state
  | 2 => .map <$> mapReader
  | 3 => .tag <$> tagReader
  | _ => wrongForm

def cellField : Nat → Reader CellField
  | 1 => (.store <| .currentProgram ·) <$> number 1
  | 2 => (.store <| .currentLot ·) <$> number 4
  | 3 => (.feed <| .inputCount ·) <$> number 1
  | 4 => (.feed <| .outputCount ·) <$> number 1
  | 5 => (.feed <| .inputDirection ·) <$> number 1
  | 6 => (.feed <| .outputDirection ·) <$> number 1
  | 7 => (.feed <| .elevate ·) <$> number 2
  | 8 => (.feed <| .push ·) <$> number 2
  | 9 => (.feed <| .transfer ·) <$> number 2
  | 10 => (.feed <| .index ·) <$> number 2
  | 11 => do let _ ← number 1; return .feed .runState
  | 12 => (.arbiter <| .width ·) <$> number 1
  | 13 => (.arbiter <| .clearance ·) <$> number 1
  | 14 => .missRun <$> number 1
  | 15 => .dueCount <$> number 1
  | 16 => (.heater <| .setPoint ·) <$> number 2
  | 17 => (.heater <| .window ·) <$> number 1
  | 18 => (.heater <| .gain ·) <$> number 1
  | _ => wrongForm

/-! ## Records that no PUT or AMEND writes

Their fields are read for their form alone: a frame of the right form is LOCKED by the owner, one of the wrong form is
BAD_FRAME (R178). Each function gives the form of the field of a code, in the order of the table its docstring names; the
choices where a table leaves the order or the split of a row open are log 17's. -/

/-- A value of a count of bytes, not kept. -/
def value (width : Nat) : Reader Unit := do let _ ← takeBytes width

/-- A marker byte, not kept. -/
def mark : Reader Unit := do let _ ← flag

/-- A value that may be absent, not kept. -/
def maybe (width : Nat) : Reader Unit := do let _ ← present width (value width)

/-- A code that is followed by its parameter when it is the one named. -/
def coded (code width : Nat) : Reader Unit := do if (← number 1) = code then value width

/-- The strip record table (R1); the map is a list of its entries and the seven counts are codes 12 to 18. -/
def stripField : Nat → Reader Unit
  | 1 | 2 => value 4
  | 3 | 4 | 8 | 9 | 10 => value 1
  | 5 => maybe 2
  | 6 => coded 4 1
  | 7 => mark
  | 11 => do let _ ← counted (value 11)
  | code => if 12 ≤ code ∧ code ≤ 18 then value 2 else wrongForm

/-- A strip record as a PUT carries it: the ten first fields, the seven counts, then an entry for each unit of its
columns and rows, without a list count. R186 gives the map this place and form in a LOOK alone; the order of R1's table
and R185's form of a list would give a PUT a counted map before the counts: DESIGN CHOICE (log 17). -/
def stripRecord : Reader Unit := do
  inOrder stripField 8
  let columns ← number 1
  let rows ← number 1
  value 14
  let _ ← several (value 11) (columns * rows)

/-- An output slot record: the state, FILLED with its strip id as the parameter of the state and no presence byte (R24,
R185): DESIGN CHOICE (log 16). -/
def outslotField : Nat → Reader Unit
  | 1 => coded 3 4
  | _ => wrongForm

/-- A ticket (R142). -/
def ticketField : Nat → Reader Unit
  | 1 | 2 | 10 => value 4
  | 3 | 4 | 5 | 7 | 11 | 12 => value 1
  | 6 | 9 => value 2
  | 8 => do
    let _ ← counted do
      value 3
      mark
  | _ => wrongForm

/-- A last computation record (R113): 24 bytes of values, then the clamp mark and the excursion mark. -/
def computationForm : Reader Unit := do
  value 24
  mark
  mark

/-- The heater reading record (R104) with the five counts of R115 one code each. -/
def heaterField : Nat → Reader Unit
  | 1 => do let _ ← present 1 (coded 1 2)
  | 2 | 3 => maybe 2
  | 4 => value 1
  | 5 => coded 2 1
  | 6 | 7 | 8 | 9 | 10 => value 2
  | 11 | 12 => do let _ ← present 26 computationForm
  | _ => wrongForm

/-- The latest-touch record and the states beside it (R172). -/
def touchField : Nat → Reader Unit
  | 1 => maybe 5
  | 2 => maybe 3
  | 3 | 4 => value 2
  | 5 => mark
  | 6 | 7 => value 1
  | _ => wrongForm

/-- The LINK record (R184). -/
def linkField : Nat → Reader Unit
  | 1 | 3 => value 1
  | 2 => mark
  | code => if 4 ≤ code ∧ code ≤ 9 then value 2 else wrongForm

/-! ## Requests -/

/-- The owner of a field of the CELL record (R180). -/
def ownerOf : CellField → CellOwner
  | .store _ => .store
  | .feed _ => .feed
  | .arbiter _ => .arbiter
  | .missRun _ => .heads
  | .dueCount _ => .quality
  | .heater _ => .settings

/-- The command of an AMEND of CELL: its one owner's, or the mixed one (R180); no field at all goes to the Store
(log 17). -/
def cellAmend (tag key : Nat) (fs : List CellField) : Instr :=
  match fs with
  | [] => .amendCellStrip tag key []
  | f :: rest =>
    if rest.any fun g => ownerOf g != ownerOf f then .amendCellMixed tag key fs
    else
      match f with
      | .store _ => .amendCellStrip tag key (fs.filterMap fun | .store g => some g | _ => none)
      | .feed _ => .amendCellFeed tag key (fs.filterMap fun | .feed g => some g | _ => none)
      | .arbiter _ => .amendCellWindow tag key (fs.filterMap fun | .arbiter g => some g | _ => none)
      | .heater _ => .amendCellHeater tag key (fs.filterMap fun | .heater g => some g | _ => none)
      | .missRun n => .amendCellMissRun tag key n
      | .dueCount n => .amendCellDueCount tag key n

/-- A table with a key (R178, R185). -/
def keyReader : Nat → Reader TableKey
  | 1 => .cell <$> number 1
  | 2 => .strip <$> number 4
  | 3 => .inslot <$> number 1
  | 4 => .outslot <$> number 1
  | 5 => .program <$> number 1
  | 6 => do let p ← number 1; let i ← number 2; let v ← view; return .wire p i v
  | 7 => .loop <$> number 1
  | 8 => .cls <$> number 1
  | 9 => .ticket <$> number 4
  | 10 => .head <$> number 1
  | 11 => .heater <$> number 1
  | 12 => do let n ← number 1; let v ← view; return .panel n v
  | 13 => .colourMap <$> number 1
  | 14 => .backlight <$> number 1
  | 15 => .touch <$> number 1
  | 16 => .attention <$> number 1
  | 17 => .link <$> number 1
  | _ => wrongForm

/-- The command of a TAKE. -/
def takeOf (tag : Nat) : TableKey → Instr
  | .program id => .takeProgram tag id
  | .head n => .takeHead tag n
  | .heater k => .takeHeater tag k
  | .cls id => .takeClass tag id
  | .ticket n => .takeTicket tag n
  | .panel n _ => .takePanel tag n
  | .touch k => .takeTouch tag k
  | .attention k => .takeAttention tag k
  | .link k => .takeLink tag k
  | key => .take tag key

/-- A write of a kind its table never allows, its form read and its content left to the owner, which refuses it. -/
def lockedReader {α : Type} (tag : Nat) (w : LockedWrite) (form : Reader α) : Reader Instr := do
  let _ ← form
  return .writeLocked tag w

/-- A PUT. No rule gives field codes to the ticket summary, key 0: it is read with the ticket's twelve fields too,
DESIGN CHOICE (log 17). -/
def putReader (tag : Nat) : TableKey → Reader Instr
  | .cell _ => lockedReader tag .cellPut (inOrder cellField 18)
  | .strip _ => lockedReader tag .stripPut stripRecord
  | .inslot n => do let m ← mapReader; let t ← tagReader; return .putInslot tag n m t
  | .outslot _ => lockedReader tag .outslotPut (inOrder outslotField 1)
  | .program id => .putProgram tag id <$> programReader id
  | .wire p i _ => .putWire tag p i <$> wireReader i
  | .loop n => .putLoop tag n <$> loopReader
  | .cls id => .putClass tag id <$> classReader
  | .ticket _ => lockedReader tag .ticketPut (inOrder ticketField 12)
  | .head _ => lockedReader tag .headPut (inOrder headField 33)
  | .heater _ => lockedReader tag .heaterPut (inOrder heaterField 12)
  | .panel n _ =>
    if n ≤ 15 then .putPanel tag n <$> panelReader n else lockedReader tag (.panelPut n) (panelReader n)
  | .colourMap _ => lockedReader tag .colourMapPut (inOrder colourField 25)
  | .backlight _ => lockedReader tag .backlightPut (inOrder backlightField 4)
  | .touch _ => lockedReader tag .touchPut (inOrder touchField 7)
  | .attention _ => lockedReader tag .attentionPut (inOrder attentionField 3)
  | .link _ => lockedReader tag .linkPut (inOrder linkField 9)

/-- An AMEND; the ticket summary is read as in a PUT (log 17). -/
def amendReader (tag : Nat) : TableKey → Reader Instr
  | .cell k => cellAmend tag k <$> allFields cellField
  | .strip _ => lockedReader tag .stripAmend (allFields stripField)
  | .inslot n => .amendInslot tag n <$> allFields inslotField
  | .outslot _ => lockedReader tag .outslotAmend (allFields outslotField)
  | .program id => .amendProgram tag id <$> allFields programField
  | .wire p i _ => .amendWire tag p i <$> allFields wireField
  | .loop n => .amendLoop tag n <$> allFields loopField
  | .cls id => .amendClass tag id <$> allFields classField
  | .ticket _ => lockedReader tag .ticketAmend (allFields ticketField)
  | .head n => .amendHead tag n <$> allFields headField
  | .heater _ => lockedReader tag .heaterAmend (allFields heaterField)
  | .panel n _ =>
    if n ≤ 15 then .amendPanel tag n <$> allFields panelField
    else lockedReader tag (.panelAmend n) (allFields panelField)
  | .colourMap k => .amendColourmap tag k <$> allFields colourField
  | .backlight k => .amendBacklight tag k <$> allFields backlightField
  | .touch _ => lockedReader tag .touchAmend (allFields touchField)
  | .attention k => .amendAttention tag k <$> allFields attentionField
  | .link _ => lockedReader tag .linkAmend (allFields linkField)

/-- The command of a RETIRE. -/
def retireOf (tag : Nat) : TableKey → Instr
  | .cell _ => .writeLocked tag .cellRetire
  | .strip id => .retireStrip tag id
  | .inslot n => .retireInslot tag n
  | .outslot _ => .writeLocked tag .outslotRetire
  | .program id => .retireProgram tag id
  | .wire p i _ => .retireWire tag p i
  | .loop _ => .writeLocked tag .loopRetire
  | .cls id => .retireClass tag id
  | .ticket _ => .writeLocked tag .ticketRetire
  | .head _ => .writeLocked tag .headRetire
  | .heater _ => .writeLocked tag .heaterRetire
  | .panel n _ => if n ≤ 15 then .retirePanel tag n else .writeLocked tag (.panelRetire n)
  | .colourMap _ => .writeLocked tag .colourMapRetire
  | .backlight _ => .writeLocked tag .backlightRetire
  | .touch _ => .writeLocked tag .touchRetire
  | .attention _ => .writeLocked tag .attentionRetire
  | .link _ => .writeLocked tag .linkRetire

/-- The arguments of a draw kind, numbered from 1 in the order of R163. The character codes of GLYPHS follow a 1-byte
count, as those of a text do: R163 calls them a code list, and R185 gives a list a 2-byte count and a text a 1-byte one,
DESIGN CHOICE (log 17). -/
def shapeReader : Nat → Reader DrawShape
  | 1 => return .fillRect (← number 2) (← number 2) (← number 2) (← number 2)
  | 2 => return .hLine (← number 2) (← number 2) (← number 2)
  | 3 => return .vLine (← number 2) (← number 2) (← number 2)
  | 4 => return .line (← number 2) (← number 2) (← number 2) (← number 2)
  | 5 => return .circle (← number 2) (← number 2) (← number 2) (← number 1)
  | 6 => return .glyphs (← number 2) (← number 2) (← text)
  | k => do let _ ← takeRest; return .unknown k

/-- A named action with its arguments, by its code (R181, R185). A disposition outside the three is the owner's to
refuse BAD_FIELD, as a group outside the three is (log 17). The form of CLEAR_ATTENTION's set is not stated: 2 bytes, in
the bit order R186 gives the flags and the mask, DESIGN CHOICE (log 17). -/
def actReader (tag : Nat) : Nat → Reader Instr
  | 1 => .lotStart tag <$> number 4
  | 2 => return .rejectUnit tag (← number 4) (← number 1) (← number 1)
  | 3 => return .unrejectUnit tag (← number 4) (← number 1) (← number 1)
  | 4 => return .feedRun tag
  | 5 => return .feedStop tag
  | 6 => do
    let g ← number 1
    match ← number 1 with
    | 1 => return .feedClearCompleted tag g
    | 2 => return .feedClearBack tag g
    | 3 => return .feedClearRemoved tag g
    | _ => return .feedClearCompleted tag 0
  | 7 => .programApply tag <$> number 1
  | 8 => .headEnable tag <$> number 1
  | 9 => .headDisable tag <$> number 1
  | 10 => .hold tag <$> number 1
  | 11 => .resume tag <$> number 1
  | 12 => .abort tag <$> number 1
  | 13 => .newCapillary tag <$> number 1
  | 14 => .headReset tag <$> number 1
  | 15 => .requalify tag <$> number 1
  | 16 => .sampleNext tag <$> number 1
  | 17 => return .submitResult tag (← number 4) (← number 2) (← number 2) (← number 1)
  | 18 => .withdraw tag <$> number 4
  | 19 => do
    let kind ← number 1
    let panel ← number 1
    let index ← number 1
    .draw tag panel index <$> shapeReader kind
  | 20 => return .clearScreen tag
  | 21 => .clearAttention tag <$> number 2
  | 22 => return .cellReset tag
  | _ => wrongForm

/-- A request by its kind: LOOK 1, LIST 2, PUT 3, AMEND 4, RETIRE 5, TAKE 6, ACT 7 (R185). -/
def requestReader (kind tag code : Nat) : Reader Instr :=
  match kind with
  | 1 => .look tag <$> keyReader code
  | 2 => .list tag <$> keyReader code
  | 3 => do putReader tag (← keyReader code)
  | 4 => do amendReader tag (← keyReader code)
  | 5 => retireOf tag <$> keyReader code
  | 6 => takeOf tag <$> keyReader code
  | 7 => actReader tag code
  | _ => wrongForm

/-- The command a request frame spells, the bytes after the type byte; none for a frame that is answered BAD_FRAME
(R178, R185). -/
def requestOfFrame (frame : List Byte) : Option Instr :=
  if frame.length < 6 ∨ 700 < frame.length ∨ numberOf (frame.take 2) ≠ frame.length ∨ !sumsToZero frame then none
  else
    match (frame.drop 2).dropLast with
    | kind :: tag :: code :: body =>
      match requestReader kind.toNat tag.toNat code.toNat body with
      | some (i, []) => some i
      | _ => none
    | _ => none

/-! ## Machinery links (R188) -/

/-- The code and body of a whole frame; none for one that is discarded. -/
def frameContent (frame : List Byte) : Option (Nat × List Byte) :=
  if frame.length < 4 ∨ 32 < frame.length ∨ !sumsToZero frame then none
  else
    match frame.dropLast with
    | start :: len :: code :: body =>
      if start = 0x7E ∧ len.toNat = frame.length then some (code.toNat, body) else none
    | _ => none

/-- The event of a head link frame (R188). A known code whose body has another length than its own is discarded as no
event: DESIGN CHOICE (log 18). -/
def headEvent (h : HeadId) (frame : List Byte) : Option Instr :=
  match frameContent frame with
  | some (0x81, []) => some (.atPosition h)
  | some (0x82, []) => some (.contact h)
  | some (0x83, []) => some (.bondDone h)
  | some (0x84, []) => some (.attached h)
  | some (0x85, []) => some (.detached h)
  | some (0x86, []) => some (.sparkOk h)
  | some (0x87, []) => some (.sparkOpen h)
  | some (0x88, []) => some (.stopped h)
  | some (0x89, [code]) => some (.driveFault h code.toNat)
  | _ => none

/-- The event of a track link frame (R188). A known code whose body has another length than its own, and a SLOT_SEEN
whose occupied byte is above 1, are discarded as no event: DESIGN CHOICE (log 18). -/
def trackEvent (frame : List Byte) : Option Instr :=
  match frameContent frame with
  | some (0x81, [g, slot, occupied]) =>
    if 1 < occupied.toNat then none else (groupOfCode g.toNat).map fun g => .slotSeen g slot.toNat (occupied == 1)
  | some (0x82, [g]) => (groupOfCode g.toNat).map .done
  | some (0x83, [g]) => (groupOfCode g.toNat).map .jam
  | _ => none

/-- A frame of the heater port as received (R105, R188). -/
def heaterFrame (frame : List Byte) : HeaterFrame :=
  match frameContent frame with
  | some (0x81, [kind, a, b]) =>
    if kind = 1 then .temperature (numberOf [a, b]) else if kind = 2 then .sensorFault else .unreadable
  | _ => .unreadable

/-- The event of a touch port frame (R188). A known code whose body has another length than its own is discarded: DESIGN
CHOICE (log 18). -/
def touchEvent (frame : List Byte) : Option Instr :=
  match frameContent frame with
  | some (0x81, [a, b, c, d]) => some (.press (numberOf [a, b]) (numberOf [c, d]))
  | some (0x82, []) => some .release
  | _ => none

end Sys2Proof.Machine
end

