-- ==== Sys2Proof/WellFormed.lean ====
section
/-! DEFINITION. The commands a port can bring: every number in the width its frame carries it in, no field of an AMEND
twice (R178, R185 to R188). A value of right width and wrong range is well formed: its owner refuses it. -/

namespace Sys2Proof

open Sys2Proof.Machine (noRepeat requestOfFrame ownerOf transactionType)

/-- A number fits a count of bytes. -/
def fits (width n : Nat) : Bool := decide (n < 256 ^ width)

/-- Codes fit one byte each, and their count one byte. -/
def textFits (codes : List Nat) : Bool := fits 1 codes.length && codes.all (fits 1)

/-- A map fits a frame. -/
def mapFits (m : List Pos) : Bool := fits 2 m.length && m.all fun p => fits 1 p.column && fits 1 p.row

/-- A key fits the width of its table. -/
def TableKey.fits : TableKey → Bool
  | .strip id => Sys2Proof.fits 4 id
  | .ticket n => Sys2Proof.fits 4 n
  | .wire p i _ => Sys2Proof.fits 1 p && Sys2Proof.fits 2 i
  | .panel n _ => Sys2Proof.fits 1 n
  | .cell k | .inslot k | .outslot k | .program k | .loop k | .cls k | .head k | .heater k | .colourMap k
  | .backlight k | .touch k | .attention k | .link k => Sys2Proof.fits 1 k

/-- The tables that have a TAKE of their own in the table of commands. -/
def TableKey.ownTake : TableKey → Bool
  | .program _ | .head _ | .heater _ | .cls _ | .ticket _ | .panel _ _ | .touch _ | .attention _ | .link _ => true
  | _ => false

/-- A locked write of a panel names a number from 16 to 255. -/
def LockedWrite.fits : LockedWrite → Bool
  | .panelPut n | .panelAmend n | .panelRetire n => decide (16 ≤ n) && Sys2Proof.fits 1 n
  | _ => true

def Filter.fits (f : Filter) : Bool := Sys2Proof.fits 2 f.value && Sys2Proof.fits 2 f.mask

def BondSet.fits (b : BondSet) : Bool :=
  Sys2Proof.fits 2 b.power && Sys2Proof.fits 1 b.force && Sys2Proof.fits 2 b.time

def Point.fits (p : Point) : Bool := Sys2Proof.fits 2 p.x && Sys2Proof.fits 2 p.y && Sys2Proof.fits 2 p.z

def ProgramBody.fits (b : ProgramBody) : Bool :=
  textFits b.name && Sys2Proof.fits 1 b.columns && Sys2Proof.fits 1 b.rows && Sys2Proof.fits 2 b.pitchX &&
    Sys2Proof.fits 2 b.pitchY && Sys2Proof.fits 1 b.soak && Sys2Proof.fits 2 b.plan.period &&
    Sys2Proof.fits 2 b.plan.offset && Sys2Proof.fits 2 b.plan.run && b.filter1.fits && b.filter2.fits &&
    b.filter3.fits && b.filter4.fits

def Wire.fits (w : Wire) : Bool :=
  Sys2Proof.fits 1 w.cls && w.first.fits && w.second.fits && Sys2Proof.fits 1 w.loop && w.firstBond.fits &&
    w.secondBond.fits && Sys2Proof.fits 2 w.tail && w.bump.all BondSet.fits

def LoopBody.fits (b : LoopBody) : Bool :=
  Sys2Proof.fits 2 b.height && Sys2Proof.fits 2 b.reverse && Sys2Proof.fits 2 b.kink && Sys2Proof.fits 1 b.profile

/-- A signed number of one byte. -/
def fitsSigned (n : Int) : Bool := decide (-128 ≤ n) && decide (n ≤ 127)

def ClassBody.fits (b : ClassBody) : Bool :=
  Sys2Proof.fits 2 b.pMin && Sys2Proof.fits 2 b.pMax && Sys2Proof.fits 1 b.fMin && Sys2Proof.fits 1 b.fMax &&
    fitsSigned b.trim && Sys2Proof.fits 1 b.trimStep && Sys2Proof.fits 1 b.missPolicy && Sys2Proof.fits 2 b.pullMin &&
    Sys2Proof.fits 2 b.watchLevel && Sys2Proof.fits 1 b.shift && Sys2Proof.fits 1 b.bandWidth &&
    Sys2Proof.fits 1 b.provingUnits && Sys2Proof.fits 1 b.resultsRequired && Sys2Proof.fits 1 b.recovery

def BindingCode.fits (b : BindingCode) : Bool := Sys2Proof.fits 1 b.form && Sys2Proof.fits 4 b.value

def PanelBody.fits (b : PanelBody) : Bool :=
  Sys2Proof.fits 1 b.kind && Sys2Proof.fits 2 b.x && Sys2Proof.fits 2 b.y && Sys2Proof.fits 2 b.width &&
    Sys2Proof.fits 2 b.height && b.binding.fits && Sys2Proof.fits 1 b.background && Sys2Proof.fits 1 b.foreground &&
    Sys2Proof.fits 1 b.period && textFits b.text

/-! ## Field codes (R185) -/

def InslotField.code : InslotField → Nat
  | .state => 1
  | .map _ => 2
  | .tag _ => 3

def InslotField.fits : InslotField → Bool
  | .state => true
  | .map m => m.all mapFits
  | .tag t => t.all (Sys2Proof.fits 4)

def ProgramField.code : ProgramField → Nat
  | .id => 1
  | .name _ => 2
  | .columns _ => 3
  | .rows _ => 4
  | .pitchX _ => 5
  | .pitchY _ => 6
  | .soak _ => 7
  | .wireCount => 8
  | .generation => 9
  | .stagedFlag => 10
  | .classesUsed => 11
  | .period _ => 12
  | .offset _ => 13
  | .run _ => 14
  | .filter1 _ => 15
  | .filter2 _ => 16
  | .filter3 _ => 17
  | .filter4 _ => 18

def ProgramField.fits : ProgramField → Bool
  | .name codes => textFits codes
  | .columns n | .rows n | .soak n => Sys2Proof.fits 1 n
  | .pitchX n | .pitchY n | .period n | .offset n | .run n => Sys2Proof.fits 2 n
  | .filter1 f | .filter2 f | .filter3 f | .filter4 f => f.fits
  | .id | .wireCount | .generation | .stagedFlag | .classesUsed => true

def WireField.code : WireField → Nat
  | .index => 1
  | .cls _ => 2
  | .firstX _ => 3
  | .firstY _ => 4
  | .firstZ _ => 5
  | .secondX _ => 6
  | .secondY _ => 7
  | .secondZ _ => 8
  | .loop _ => 9
  | .firstPower _ => 10
  | .firstForce _ => 11
  | .firstTime _ => 12
  | .secondPower _ => 13
  | .secondForce _ => 14
  | .secondTime _ => 15
  | .tail _ => 16
  | .bumpAdd _ | .bumpRemove => 17

def WireField.fits : WireField → Bool
  | .cls n | .loop n | .firstForce n | .secondForce n => Sys2Proof.fits 1 n
  | .firstX n | .firstY n | .firstZ n | .secondX n | .secondY n | .secondZ n | .firstPower n | .firstTime n
  | .secondPower n | .secondTime n | .tail n => Sys2Proof.fits 2 n
  | .bumpAdd b => b.all BondSet.fits
  | .index | .bumpRemove => true

def LoopField.code : LoopField → Nat
  | .height _ => 1
  | .reverse _ => 2
  | .kink _ => 3
  | .profile _ => 4

def LoopField.fits : LoopField → Bool
  | .height n | .reverse n | .kink n => Sys2Proof.fits 2 n
  | .profile n => Sys2Proof.fits 1 n

/-- `qualification` stands for several codes and has none of its own. -/
def ClassField.code : ClassField → Option Nat
  | .pMin _ => some 1
  | .pMax _ => some 2
  | .fMin _ => some 3
  | .fMax _ => some 4
  | .trim _ => some 5
  | .trimStep _ => some 6
  | .missPolicy _ => some 7
  | .pullMin _ => some 8
  | .watchLevel _ => some 9
  | .shift _ => some 10
  | .bandWidth _ => some 11
  | .provingUnits _ => some 12
  | .resultsRequired _ => some 13
  | .recovery _ => some 14
  | .qualification => none

def ClassField.fits : ClassField → Bool
  | .pMin n | .pMax n | .pullMin n | .watchLevel n => Sys2Proof.fits 2 n
  | .fMin n | .fMax n | .trimStep n | .missPolicy n | .shift n | .bandWidth n | .provingUnits n | .resultsRequired n
  | .recovery n => Sys2Proof.fits 1 n
  | .trim n => fitsSigned n
  | .qualification => true

def LockedHeadField.code : LockedHeadField → Nat
  | .state _ => 1
  | .step _ => 2
  | .reason _ => 3
  | .claim _ => 4
  | .resume _ => 5
  | .sparkWire _ => 6
  | .sparkTry _ => 7
  | .ball _ => 8
  | .faultRun _ => 9
  | .stopTimeout _ => 13
  | .serial _ => 16
  | .count _ => 18
  | .lifetime _ => 23
  | .statistic index _ => 24 + index
  | .latched _ => 33

def ClaimBody.fits (c : ClaimBody) : Bool :=
  Sys2Proof.fits 4 c.strip && Sys2Proof.fits 1 c.column && Sys2Proof.fits 1 c.row && Sys2Proof.fits 2 c.wireCount &&
    Sys2Proof.fits 2 c.wire && Sys2Proof.fits 2 c.proving.length && c.proving.all (Sys2Proof.fits 1)

/-- The code 15, DRIVE, carries the drive fault code; another reason carries nothing. -/
def LockedHeadField.fits : LockedHeadField → Bool
  | .state n | .sparkTry n | .ball n | .faultRun n | .stopTimeout n | .latched n => Sys2Proof.fits 1 n
  | .step n => n.all (Sys2Proof.fits 1)
  | .reason r => r.all fun r => Sys2Proof.fits 1 r.1 && Sys2Proof.fits 1 r.2 && (r.1 == 15 || r.2 == 0)
  | .claim c => c.all ClaimBody.fits
  | .resume p => p.all fun p => Sys2Proof.fits 2 p.1 && Sys2Proof.fits 1 p.2
  | .sparkWire n | .serial n => Sys2Proof.fits 2 n
  | .count n => Sys2Proof.fits 4 n
  | .lifetime n => Sys2Proof.fits 6 n
  | .statistic index n => decide (index < 9) && Sys2Proof.fits 2 n

def HeadField.code : HeadField → Nat
  | .positionTimeout _ => 10
  | .bondTimeout _ => 11
  | .sparkTimeout _ => 12
  | .sparkCurrent _ => 14
  | .sparkTime _ => 15
  | .life _ => 17
  | .wearInterval _ => 19
  | .wearCap _ => 20
  | .kP _ => 21
  | .kF _ => 22
  | .locked f => f.code

def HeadField.fits : HeadField → Bool
  | .positionTimeout n | .sparkTime n => Sys2Proof.fits 2 n
  | .bondTimeout n | .sparkTimeout n | .sparkCurrent n | .wearCap n | .kP n | .kF n => Sys2Proof.fits 1 n
  | .life n | .wearInterval n => Sys2Proof.fits 4 n
  | .locked f => f.fits

def PanelField.code : PanelField → Nat
  | .number => 1
  | .kind _ => 2
  | .x _ => 3
  | .y _ => 4
  | .width _ => 5
  | .height _ => 6
  | .binding _ => 7
  | .background _ => 8
  | .foreground _ => 9
  | .blink _ => 10
  | .period _ => 11
  | .visible _ => 12
  | .text _ => 13
  | .canvasCleared => 14

def PanelField.fits : PanelField → Bool
  | .kind n | .background n | .foreground n | .period n => Sys2Proof.fits 1 n
  | .x n | .y n | .width n | .height n => Sys2Proof.fits 2 n
  | .binding b => b.fits
  | .text codes => textFits codes
  | .number | .blink _ | .visible _ | .canvasCleared => true

def ColourEntry.code : ColourEntry → Nat
  | .skip => 17
  | .pending => 18
  | .claimed => 19
  | .bonded => 20
  | .fault => 21
  | .rework => 22
  | .reject => 23
  | .pullPending => 24
  | .pullDone => 25

def ColourField.code : ColourField → Nat
  | .palette i _ => i + 1
  | .map e _ => e.code

def ColourField.fits : ColourField → Bool
  | .palette i v => decide (i < 16) && Sys2Proof.fits 2 v
  | .map _ i => Sys2Proof.fits 1 i

def BacklightField.code : BacklightField → Nat
  | .level _ => 1
  | .off _ => 2
  | .dimLevel _ => 3
  | .dimTime _ => 4

def BacklightField.fits : BacklightField → Bool
  | .level n | .dimLevel n => Sys2Proof.fits 1 n
  | .off _ => true
  | .dimTime n => Sys2Proof.fits 2 n

def AttentionField.code : AttentionField → Nat
  | .flags => 1
  | .mask _ => 2
  | .line => 3

def AttentionField.fits : AttentionField → Bool
  | .mask n => Sys2Proof.fits 2 n
  | .flags | .line => true

def CellStripField.code : CellStripField → Nat
  | .currentProgram _ => 1
  | .currentLot _ => 2

def CellStripField.fits : CellStripField → Bool
  | .currentProgram n => Sys2Proof.fits 1 n
  | .currentLot n => Sys2Proof.fits 4 n

def CellFeedField.code : CellFeedField → Nat
  | .inputCount _ => 3
  | .outputCount _ => 4
  | .inputDirection _ => 5
  | .outputDirection _ => 6
  | .elevate _ => 7
  | .push _ => 8
  | .transfer _ => 9
  | .index _ => 10
  | .runState => 11

def CellFeedField.fits : CellFeedField → Bool
  | .inputCount n | .outputCount n | .inputDirection n | .outputDirection n => Sys2Proof.fits 1 n
  | .elevate n | .push n | .transfer n | .index n => Sys2Proof.fits 2 n
  | .runState => true

def CellWindowField.code : CellWindowField → Nat
  | .width _ => 12
  | .clearance _ => 13

def CellWindowField.fits : CellWindowField → Bool
  | .width n | .clearance n => Sys2Proof.fits 1 n

def CellHeaterField.code : CellHeaterField → Nat
  | .setPoint _ => 16
  | .window _ => 17
  | .gain _ => 18

def CellHeaterField.fits : CellHeaterField → Bool
  | .setPoint n => Sys2Proof.fits 2 n
  | .window n | .gain n => Sys2Proof.fits 1 n

def CellField.code : CellField → Nat
  | .store f => f.code
  | .feed f => f.code
  | .arbiter f => f.code
  | .missRun _ => 14
  | .dueCount _ => 15
  | .heater f => f.code

def CellField.fits : CellField → Bool
  | .store f => f.fits
  | .feed f => f.fits
  | .arbiter f => f.fits
  | .missRun n | .dueCount n => Sys2Proof.fits 1 n
  | .heater f => f.fits

/-- A field list: each value fits, no code stands twice. -/
def fieldsFit {F : Type} (ok : F → Bool) (code : F → Nat) (fs : List F) : Bool := fs.all ok && noRepeat (fs.map code)

/-- Two fields of a CELL AMEND have different owners (R180). -/
def mixedOwners : List CellField → Bool
  | [] => false
  | f :: rest => rest.any fun g => ownerOf g != ownerOf f

def DrawShape.fits : DrawShape → Bool
  | .fillRect x y w h => [x, y, w, h].all (Sys2Proof.fits 2)
  | .hLine x y l | .vLine x y l => [x, y, l].all (Sys2Proof.fits 2)
  | .line x0 y0 x1 y1 => [x0, y0, x1, y1].all (Sys2Proof.fits 2)
  | .circle cx cy r form => [cx, cy, r].all (Sys2Proof.fits 2) && Sys2Proof.fits 1 form
  | .glyphs x y codes => [x, y].all (Sys2Proof.fits 2) && textFits codes
  | .unknown kind => Sys2Proof.fits 1 kind && (decide (kind = 0) || decide (6 < kind))

def HeaterFrame.fits : HeaterFrame → Bool
  | .temperature n => Sys2Proof.fits 2 n
  | .sensorFault | .unreadable => true

/-- A command a port can bring. -/
def Instr.wellFormed : Instr → Bool
  | .powerOnReset _ _ _ | .overrun | .responsePlaced | .read _ => true
  | .unknownTransaction t => transactionType t == .unknown
  | .badFrame frame => (requestOfFrame frame).isNone
  | .look tag key | .list tag key => fits 1 tag && key.fits
  | .take tag key => fits 1 tag && key.fits && !key.ownTake
  | .takeTicket tag n => fits 1 tag && fits 4 n
  | .takeProgram tag k | .takeHead tag k | .takeHeater tag k | .takeClass tag k | .takePanel tag k
  | .takeTouch tag k | .takeAttention tag k | .takeLink tag k => fits 1 tag && fits 1 k
  | .writeLocked tag w => fits 1 tag && w.fits
  | .retireStrip tag id => fits 1 tag && fits 4 id
  | .putInslot tag n m t => fits 1 tag && fits 1 n && m.all mapFits && t.all (fits 4)
  | .amendInslot tag n fs => fits 1 tag && fits 1 n && fieldsFit InslotField.fits InslotField.code fs
  | .retireInslot tag n => fits 1 tag && fits 1 n
  | .putProgram tag id b => fits 1 tag && fits 1 id && b.fits
  | .amendProgram tag id fs => fits 1 tag && fits 1 id && fieldsFit ProgramField.fits ProgramField.code fs
  | .retireProgram tag id => fits 1 tag && fits 1 id
  | .putWire tag p i w => fits 1 tag && fits 1 p && fits 2 i && w.fits
  | .amendWire tag p i fs => fits 1 tag && fits 1 p && fits 2 i && fieldsFit WireField.fits WireField.code fs
  | .retireWire tag p i => fits 1 tag && fits 1 p && fits 2 i
  | .putLoop tag n b => fits 1 tag && fits 1 n && b.fits
  | .amendLoop tag n fs => fits 1 tag && fits 1 n && fieldsFit LoopField.fits LoopField.code fs
  | .putClass tag id b => fits 1 tag && fits 1 id && b.fits
  | .amendClass tag id fs => fits 1 tag && fits 1 id && fs.all ClassField.fits && noRepeat (fs.filterMap ClassField.code)
  | .retireClass tag id => fits 1 tag && fits 1 id
  | .amendHead tag n fs => fits 1 tag && fits 1 n && fieldsFit HeadField.fits HeadField.code fs
  | .putPanel tag n b => fits 1 tag && decide (n ≤ 15) && b.fits
  | .amendPanel tag n fs => fits 1 tag && decide (n ≤ 15) && fieldsFit PanelField.fits PanelField.code fs
  | .retirePanel tag n => fits 1 tag && decide (n ≤ 15)
  | .amendColourmap tag k fs => fits 1 tag && fits 1 k && fieldsFit ColourField.fits ColourField.code fs
  | .amendBacklight tag k fs => fits 1 tag && fits 1 k && fieldsFit BacklightField.fits BacklightField.code fs
  | .amendAttention tag k fs => fits 1 tag && fits 1 k && fieldsFit AttentionField.fits AttentionField.code fs
  | .amendCellMixed tag k fs => fits 1 tag && fits 1 k && fieldsFit CellField.fits CellField.code fs && mixedOwners fs
  | .amendCellStrip tag k fs => fits 1 tag && fits 1 k && fieldsFit CellStripField.fits CellStripField.code fs
  | .amendCellFeed tag k fs => fits 1 tag && fits 1 k && fieldsFit CellFeedField.fits CellFeedField.code fs
  | .amendCellWindow tag k fs => fits 1 tag && fits 1 k && fieldsFit CellWindowField.fits CellWindowField.code fs
  | .amendCellMissRun tag k n | .amendCellDueCount tag k n => fits 1 tag && fits 1 k && fits 1 n
  | .amendCellHeater tag k fs => fits 1 tag && fits 1 k && fieldsFit CellHeaterField.fits CellHeaterField.code fs
  | .lotStart tag lot => fits 1 tag && fits 4 lot
  | .rejectUnit tag id c r | .unrejectUnit tag id c r => fits 1 tag && fits 4 id && fits 1 c && fits 1 r
  | .feedRun tag | .feedStop tag | .clearScreen tag | .cellReset tag => fits 1 tag
  | .feedClearCompleted tag g | .feedClearBack tag g | .feedClearRemoved tag g => fits 1 tag && fits 1 g
  | .programApply tag n | .headEnable tag n | .headDisable tag n | .hold tag n | .resume tag n | .abort tag n
  | .newCapillary tag n | .headReset tag n | .requalify tag n | .sampleNext tag n => fits 1 tag && fits 1 n
  | .submitResult tag t w f m => fits 1 tag && fits 4 t && fits 2 w && fits 2 f && fits 1 m
  | .withdraw tag t => fits 1 tag && fits 4 t
  | .draw tag p i shape => fits 1 tag && fits 1 p && fits 1 i && shape.fits
  | .clearAttention tag set => fits 1 tag && fits 2 set
  | .atPosition _ | .contact _ | .bondDone _ | .attached _ | .detached _ | .sparkOk _ | .sparkOpen _ | .stopped _
  | .stepTimeout _ | .stopTimeout _ => true
  | .driveFault _ code => fits 1 code
  | .slotSeen _ slot _ => fits 1 slot
  | .done _ | .jam _ | .orderTimeout _ | .presenceRise _ | .presenceFall _ | .soakElapsed => true
  | .reading f => f.fits
  | .freshnessExpiry | .resultFrame _ | .gaugeFrameLimit => true
  | .press x y => fits 2 x && fits 2 y
  | .release | .dimTimeout | .keySwitchChange _ | .frameStart | .renderComplete | .drawComplete => true

end Sys2Proof
end

