-- ==== Sys2Proof/Certificates/Slice0/Obligations.lean ====
section
/-! DEFINITION. The statements for the provers. Each says what a command, a whole family of commands or every step does,
by the rules of spec/ its docstring names. -/

open Sys2Proof Sys2Proof.Machine Sys2Proof.Safety

/-! ## Steps and reset -/

/-- A step runs the command at the front of the queue on the state with the queue's rest. -/
def Obligations.StepRunsFrontCommand : Prop :=
  ∀ (c : Instr) (rest : List Instr) (s : State),
    step { s with pending := c :: rest } = exec c { s with pending := rest }

/-- Every step answers a next state: no command, no event and no millisecond stops the part (R97, R178; log 27). And
every step, while strip numbers last (log 7), keeps the strips, the track and the claims in agreement: a zone holds at
most one strip and the location of every strip is where it lies; an order in flight or held has room to end; a claim is
of a unit CLAIMED by its head in the open window, no unit is claimed by both heads, and their columns keep the clearance
in force; and no capillary is over its life, nor will be when the wire in progress has made its touchdowns. And no step
sends FIRST BOND for a wire whose class is LAPSED, or claims a unit while a class of its program is LAPSED or the gate
fails (R6, R20, R37, R38, R66, R74, R75, R76, R77, R88). -/
def Obligations.EveryStepAnswersNext : Prop :=
  (∀ s : State, ∃ t, step s = .next t) ∧
    ∀ s t : State, PartOk s → s.store.nextStrip < 4294967295 → step s = .next t →
      PartOk t ∧ (CapillaryOk s → CapillaryOk t) ∧ ClassLaw s t

/-- POWER_ON_RESET brings every block to the values the manual gives, with the three lines as sampled, and leaves the
commands that wait: every register, table, count and timer of the part, the statistics, the capillary part, the palette
and the colour map, the receivers and the admission records among them (R1, R3, R28, R43, R44, R59, R61, R63, R72, R78,
R90, R102, R104, R108, R115, R116, R142, R150, R152, R153, R155, R167, R168, R172, R173, R184, R188). The time since the
last press, 0, and the receivers with no byte held are the model's choice (logs 21, 18), and `beforeIndex`, `cleared`,
`out` and `due` are fields of the model's own (logs 22, 24, 42). -/
def Obligations.PowerOnResetValues : Prop :=
  ∀ (inHigh outHigh supervisor : Bool) (s : State), ∃ t, exec (.powerOnReset inHigh outHigh supervisor) s = .next t ∧
    t.pending = s.pending ∧
    t.store = { strips := [], nextStrip := 1, lot := 0, program := 0 } ∧
    (let idle : GroupContext := { state := .idle, jammed := none, timer := none, limit := 0 }
     t.feed = { run := false, input := idle, track := idle, output := idle
                inSlots := List.replicate 20 { state := .unknown, map := none, tag := none }
                outSlots := List.replicate 20 .unknown, inTarget := none, outTarget := none
                inPresent := inHigh, outPresent := outHigh, inScanDue := inHigh, outScanDue := outHigh
                preheat := none, window := none, exit := none, soak := .idle, beforeIndex := none }) ∧
    t.cell = { inDirection := .bottomUp, outDirection := .bottomUp, elevate := 5000, push := 3000, transfer := 4000,
               index := 1000, width := 4, clearance := 2, missRun := 3, dueCount := 4, setPoint := 400, window := 10,
               gain := 0 } ∧
    t.programs = [] ∧
    t.loops = List.replicate 24 { height := 250, reverse := 0, kink := 0, profile := .standard } ∧
    t.arbiter = { window := .closed, clearance := 2, first := .one } ∧
    (∀ h, t.head h =
      { state := .off, step := none, claim := none, resume := none, sparkWire := 0, sparkTry := 1, ball := false
        faultRun := 0, positionTimeout := 500, bondTimeout := 50, sparkTimeout := 10, sparkCurrent := 40
        sparkTime := 120
        capillary := { serial := 0, life := 1000000, count := 0, interval := 5000, wearCap := 0, kP := 0, kF := 0 }
        lifetime := 0
        stats := { wiresBonded := 0, unitsBonded := 0, padMisses := 0, leadMisses := 0, sparkRetries := 0
                   sparkFailures := 0, timeouts := 0, clamped := 0, strays := 0 }
        latched := 0, stepTimer := none, stopTimer := none }) ∧
    t.heater = { last := none, lastTemperature := none, age := none, fresh := false, freshTimer := none
                 gate := .fail .absent, readings := 0, sensorFaults := 0, staleExpiries := 0, excursions := 0
                 discarded := 0, computation1 := none, computation2 := none } ∧
    t.quality = { classes := [], admission1 := none, admission2 := none, tickets := [], nextTicket := 1, sampling := []
                  counts := { late := 0, noSuchWire := 0, duplicates := 0, badFields := 0, badFrames := 0
                              overScale := 0 } } ∧
    t.gauge = { bytes := [], limit := none } ∧
    (let palette := [0x0000, 0xFFFF, 0x4208, 0xC618, 0xF800, 0x07E0, 0x001F, 0xFFE0,
                     0x07FF, 0xF81F, 0xFC00, 0x03E0, 0x7800, 0x000F, 0x7BE0, 0x780F]
     t.screen = { frame := [], palette, paletteShown := palette
                  colours := { skip := 2, pending := 3, claimed := 7, bonded := 5, fault := 4, rework := 10, reject := 9
                               pullPending := 8, pullDone := 1 }
                  active := [], staged := [], stale := [], queue := [], operation := none, cleared := false
                  renders := 0, drawsExecuted := 0, drawsDropped := 0
                  backlight := { level := 128, off := false, dimLevel := 16, dimTime := 0 } }) ∧
    t.touch = { dimmed := false, dimTimer := 0, sincePress := 0, pressed := false, presses := 0, refusals := 0
                latest := none, refused := none, supervisor } ∧
    t.link = { request := none, response := none, overrun := false, lastTag := 0
               counts := { requests := 0, badFrames := 0, overruns := 0, discarded := 0, emptyReads := 0, ignored := 0 }
               flags := 0, mask := 0 } ∧
    t.receivers = { head1 := [], head2 := [], track := [], heater := [], touch := [] } ∧
    t.out = .empty ∧ t.due = .none

/-! ## The record link -/

/-- A transaction of another type is ignored to its end: the ignored count is raised and the LINK flag is set. A READ in
ANSWERED shifts out the response from its first byte, 00h after its last; the slot is emptied once its last byte is
clocked and not before. A READ in IDLE or PROCESSING shifts out the empty-slot byte, then 00h, and counts an empty read.
Nothing else changes (R174, R177). That nothing is shifted out after an unknown type byte (log 30), and that an
UNKNOWN_TRANSACTION whose byte is a REQUEST's or a READ's is that transaction with no byte after it (log 3), is the
model's choice. -/
def Obligations.ReadAndUnknownTransactions : Prop :=
  ∀ (n : Nat) (b : Byte) (s : State),
    (b ≠ 0x5A → b ≠ 0xA5 → exec (.unknownTransaction b) s = .next
      { s with
        link := { s.link with counts := { s.link.counts with ignored := count16 s.link.counts.ignored }
                              flags := s.link.flags ||| 0x200 }
        out := statusByteOnly s, due := .none }) ∧
    exec (.unknownTransaction 0x5A) s = exec (.badFrame []) s ∧ exec (.unknownTransaction 0xA5) s = exec (.read 0) s ∧
    (∀ r, s.link.request = none → s.link.response = some r →
      exec (.read n) s = .next
        { s with
          link := { s.link with response := if r.bytes.length ≤ n then none else some r }
          out := { statusByteOnly s with linkBytes := (r.bytes ++ List.replicate n 0).take n }, due := .none }) ∧
    (s.link.request.isSome ∨ s.link.response = none →
      exec (.read n) s = .next
        { s with
          link := { s.link with counts := { s.link.counts with emptyReads := count16 s.link.counts.emptyReads } }
          out := { statusByteOnly s with linkBytes := (0x3C :: List.replicate n 0).take n }, due := .none })

/-- A frame of wrong form, outside PROCESSING, is taken, counted, and answered BAD_FRAME at once: the link is ANSWERED,
and no owner sees it. A response not yet read is discarded and counted; the new one carries the overrun mark, the flags
as they stand, and the kind, the code and the tag of the frame, the kind and the code 0 where they did not arrive; its
tag is the last tag; nothing else changes (R175, R176, R178, R184, R186). That the tag of a frame cut before its tag
byte is 0, in the response and as the last tag, is the model's choice (log 41): R186 says so of the kind and the code
alone. -/
def Obligations.BadFrameAnsweredAtOnce : Prop :=
  ∀ (frame : List Byte) (s : State), s.link.request = none →
    let arrived := fun n : Nat => match frame[n]? with | some b => b.toNat | none => 0
    ∃ t r, exec (.badFrame frame) s = .next t ∧
      r = { answer := plain .badFrame, overrun := s.link.overrun, tag := arrived 3, kind := arrived 2, code := arrived 4
            flags := s.link.flags } ∧
      r.answer.status = .badFrame ∧ r.answer.body = .none ∧
      t = { s with
        link := { s.link with
          request := none, response := some r, overrun := false, lastTag := arrived 3
          counts := { s.link.counts with
            requests := count16 s.link.counts.requests
            badFrames := count16 s.link.counts.badFrames
            discarded := if s.link.response.isSome then count16 s.link.counts.discarded
                         else s.link.counts.discarded } }
        out := statusOnly s, due := .none }

/-- OVERRUN, and every request of every form that arrives during PROCESSING: the frame is discarded without being
judged, the overrun mark and the LINK flag are set and the overruns count is raised; neither slot changes and no record
does (R176). -/
def Obligations.FrameDuringProcessingIsOverrun : Prop :=
  ∀ (s : State) (r : RequestSlot) (c : Instr), s.link.request = some r → isRequest c = true →
    exec c s = .next
      { s with
        link := { s.link with overrun := true
                              counts := { s.link.counts with overruns := count16 s.link.counts.overruns }
                              flags := s.link.flags ||| 0x200 }
        out := statusOnly s, due := .none }

/-- The owner's answer is placed: the response carries the status and body, the overrun mark, the tag, kind and code of
the request and the flags as they stand; the link is ANSWERED and the mark is cleared; nothing else changes
(R175, R176). -/
def Obligations.ResponsePlacedFromAnswer : Prop :=
  ∀ (s : State) (r : RequestSlot) (a : Answer), s.link.request = some r → r.answer = some a →
    exec .responsePlaced s = .next
      { s with
        link := { s.link with
          request := none
          response := some { answer := a, overrun := s.link.overrun, tag := r.tag, kind := r.kind, code := r.code,
                             flags := s.link.flags }
          overrun := false }
        out := .empty, due := .none }

/-! ## Reading tables -/

/-- LOOK of every table returns the record of its key as it stands when the request is taken, and is NO_SUCH for a key
that names none; TAKE of CELL, STRIP, COLOURMAP and BACKLIGHT answers the same. LIST returns the keys of the table from
the start key on, at most 32, with the more mark when others follow; of PANEL from 17 on it is NO_SUCH. The keys listed
ascend in every state whose tables are in order. TAKE of INSLOT, OUTSLOT, WIRE and LOOP, whose chapters name none, is
LOCKED. None of these changes anything outside the link (R1, R17, R24, R27, R60, R153, R155, R167, R179, R180, R184).
That this TAKE is LOCKED whatever the key, of an absent record too, is the model's choice (log 13), and that LIST gives
keys alone, those of an absent program or staged copy as an empty list and the two summaries not among them (log 14). -/
def Obligations.ReadingTablesChangesNothing : Prop :=
  ∀ (s : State) (tag : Nat) (key : TableKey), s.link.request = none →
    exec (.look tag key) s = .next (replied s tag 1 (tableCode key) (readAnswer s tag key)) ∧
    (∀ keys, keys = (tableKeys s key).filter (fun k => keyNumber key ≤ keyNumber k) →
      exec (.list tag key) s = .next (replied s tag 2 (tableCode key)
        (match key with
          | .panel n _ =>
            if 16 < n then plain .noSuch
            else { status := .ok, body := .keys (keys.take 32), more := decide (32 < keys.length), overScale := false }
          | _ =>
            { status := .ok, body := .keys (keys.take 32), more := decide (32 < keys.length), overScale := false })) ∧
      (KeysOk s → TicketsOk s → (keys.map keyNumber).Pairwise (· < ·))) ∧
    (match key with
      | .cell _ | .strip _ | .colourMap _ | .backlight _ =>
        exec (.take tag key) s = .next (replied s tag 6 (tableCode key) (readAnswer s tag key))
      | .inslot _ | .outslot _ | .wire _ _ _ | .loop _ =>
        exec (.take tag key) s = .next (replied s tag 6 (tableCode key) (plain .locked))
      | _ => True)

/-- TAKE returns the record as LOOK with the same tag returns it, or NO_SUCH where LOOK does, and then zeroes the counts
its rule names and nothing else: of HEATER, TOUCH, ATTENTION and LINK, key 0, the five heater counts, both touch counts
and the refusal, the flags, the six link counts; of HEAD its nine counts and latched code (not N, not lifetime
touchdowns); of PROGRAM its two sampling counts; of CLASS its statistics; of TICKET key 0 the six result counts, of a
ticket none; of PANEL 0 to 15 the canvas-cleared flag of the active record it returns, NO_SUCH with none, and of key 16
the three engine counts (R102, R115, R134, R135, R151, R155, R172, R183, R184). -/
def Obligations.TakeZeroesCounts : Prop :=
  ∀ (s : State) (tag id : Nat) (h : HeadId), s.link.request = none →
    (∃ v, exec (.takeHeater tag 0) s = .next
      (replied { s with heater := { s.heater with readings := 0, sensorFaults := 0, staleExpiries := 0,
                                                  excursions := 0, discarded := 0 } }
        tag 6 11 (answered .ok (.heater v))) ∧ v.heater = s.heater) ∧
    exec (.takeTouch tag 0) s = .next
      (replied { s with touch := { s.touch with presses := 0, refusals := 0, refused := none } } tag 6 15
        (answered .ok (.touch s.touch))) ∧
    exec (.takeAttention tag 0) s = .next
      { replied s tag 6 16 (answered .ok (.attention { flags := s.link.flags, mask := s.link.mask
                                                       line := decide (s.link.flags &&& s.link.mask ≠ 0) })) with
        link := { linkTaken s.link tag 6 16 (some (answered .ok (.attention
          { flags := s.link.flags, mask := s.link.mask, line := decide (s.link.flags &&& s.link.mask ≠ 0) }))) with
            flags := 0 } } ∧
    exec (.takeLink tag 0) s = .next
      { replied s tag 6 17 (answered .ok (.link (linkRead s tag))) with
        link := { linkTaken s.link tag 6 17 (some (answered .ok (.link (linkRead s tag)))) with
          counts := { requests := 0, badFrames := 0, overruns := 0, discarded := 0, emptyReads := 0
                      ignored := 0 } } } ∧
    (headOfNumber id = some h →
      exec (.takeHead tag id) s = .next
        (replied (s.setHead h { s.head h with stats := .zero, latched := 0 }) tag 6 10
          (answered .ok (.head id (s.head h))))) ∧
    (∀ p, s.program id = some p →
      exec (.takeProgram tag id) s = .next
        (replied (s.onSampling id fun q => { q with emptySelections := 0, missedSamples := 0 }) tag 6 5
          (answered .ok (.program { program := p, memoryFree := s.memoryFree, sampling := s.sampling id })))) ∧
    (∀ c, s.cls id = some c →
      exec (.takeClass tag id) s = .next
        (replied (s.onClass id fun c =>
          { c with stats := { bands := [0, 0, 0, 0, 0, 0, 0, 0], ballLift := 0, neck := 0, span := 0, heel := 0,
                              stitchLift := 0, belowMin := 0, results := 0 } })
          tag 6 8 (answered .ok (.cls c)))) ∧
    exec (.takeTicket tag 0) s = .next
      (replied { s with quality := { s.quality with counts := .zero } } tag 6 9
        (answered .ok (.ticketSummary { pending := s.quality.tickets.length, next := s.quality.nextTicket,
                                        dueCount := s.cell.dueCount, counts := s.quality.counts }))) ∧
    (id ≠ 0 → exec (.takeTicket tag id) s = .next (replied s tag 6 9 (readAnswer s tag (.ticket id)))) ∧
    (∃ v, exec (.takePanel tag 16) s = .next
      (replied { s with screen := { s.screen with renders := 0, drawsExecuted := 0, drawsDropped := 0 } } tag 6 12
        (answered .ok (.engine v))) ∧
      v.stale = s.screen.stale ∧ v.renders = s.screen.renders ∧ v.executed = s.screen.drawsExecuted ∧
      v.dropped = s.screen.drawsDropped) ∧
    (∀ a, id ≤ 15 → s.panel id = some a →
      exec (.takePanel tag id) s = .next
        (replied (s.onPanel id fun b => { b with canvasCleared := false }) tag 6 12
          (answered .ok (.panel a.panel a.canvasCleared)))) ∧
    (∀ c key, (c, key) ∈
        [(Instr.takeHeater tag id, TableKey.heater id), (.takeTouch tag id, .touch id),
         (.takeAttention tag id, .attention id), (.takeLink tag id, .link id), (.takeHead tag id, .head id),
         (.takeProgram tag id, .program id), (.takeClass tag id, .cls id), (.takeTicket tag id, .ticket id),
         (.takePanel tag id, .panel id .active)] →
      ∃ t, exec c s = .next t ∧ Holds t tag 6 (tableCode key) (readAnswer s tag key) ∧
        exec (.look tag key) s = .next (replied s tag 1 (tableCode key) (readAnswer s tag key)) ∧
        (recordOf s tag key = none → t = replied s tag 6 (tableCode key) (plain .noSuch)))

/-! ## Writes the Link Interface and the cell record take -/

/-- A write of a kind its table does not name is refused LOCKED and changes nothing; of a PANEL number from 16 on it is
LOCKED at 16 and NO_SUCH above. That LOCKED comes whatever the key, of an absent record too, is the model's choice
(log 13). An AMEND of CELL whose fields belong to more than one owner is refused BAD_FIELD by the Link
Interface and changes nothing (R179, R155, R180). -/
def Obligations.LockedAndMixedWritesRefused : Prop :=
  ∀ (s : State) (tag : Nat) (w : LockedWrite) (fields : List CellField), s.link.request = none →
    (match w with
      | .panelPut n | .panelAmend n | .panelRetire n => 16 ≤ n →
        exec (.writeLocked tag w) s = .next
          (replied s tag (lockedCodes w).1 (lockedCodes w).2 (plain (if n = 16 then .locked else .noSuch)))
      | _ =>
        exec (.writeLocked tag w) s = .next
          (replied s tag (lockedCodes w).1 (lockedCodes w).2 (plain .locked))) ∧
    exec (.amendCellMixed tag 0 fields) s = .next (replied s tag 4 1 (plain .badField))

/-- AMEND of ATTENTION replaces the mask, is LOCKED when it names the flags or the line, with the mask or without it,
and NO_SUCH for a key other than 0. CLEAR_ATTENTION clears the flags of its set, leaves the others, and answers OK with
no body; a set that names a flag that does not exist is BAD_FIELD. Neither changes anything else (R179, R181, R183).
That the line is LOCKED as a flag is, and LOCKED before BAD_FIELD, is the model's choice (log 15); that a mask with a
bit above the ten flags is BAD_FIELD is read from R178 and R183 (log 35). -/
def Obligations.AttentionRequests : Prop :=
  ∀ (s : State) (tag key n : Nat) (set : FlagSet) (fields : List AttentionField), s.link.request = none →
    exec (.amendAttention tag 0 [.mask set.toNat]) s = .next
      { replied s tag 4 16 (plain .ok) with
        link := { linkTaken s.link tag 4 16 (some (plain .ok)) with mask := set } } ∧
    (0x3FF < n → exec (.amendAttention tag 0 [.mask n]) s = .next (replied s tag 4 16 (plain .badField))) ∧
    (.flags ∈ fields ∨ .line ∈ fields →
      exec (.amendAttention tag 0 fields) s = .next (replied s tag 4 16 (plain .locked))) ∧
    (key ≠ 0 → exec (.amendAttention tag key fields) s = .next (replied s tag 4 16 (plain .noSuch))) ∧
    exec (.clearAttention tag set.toNat) s = .next
      { replied s tag 7 21 (plain .ok) with
        link := { linkTaken s.link tag 7 21 (some (plain .ok)) with flags := s.link.flags &&& ~~~set } } ∧
    (0x3FF < n → exec (.clearAttention tag n) s = .next (replied s tag 7 21 (plain .badField)))

/-- AMEND of CELL stores the miss run limit (1 to 9), the due count (1 to 16), the window width (1 to 8), the staged
clearance (0 to 3) and the four feed timeouts (100 to 10,000), refuses any other value BAD_FIELD, and changes nothing
else: the clearance in force, the pending tickets and the timer of an order in flight stay. The feed run state is
LOCKED. A slot count is 1 to 40 and a direction one of two, else BAD_FIELD; either is IN_USE unless the side's line is
low and its group not HELD(MAGAZINE_LOST). A count that is taken discards the slots above it with their maps and tags
and adds new ones UNKNOWN; it changes no other record, but has the side's panels rendered. That BAD_FIELD comes before
IN_USE is the model's choice (log 15), and that such an AMEND marks the panels (log 33) (R21, R28, R63, R90, R142). -/
def Obligations.CellSettingsStored : Prop :=
  ∀ (s : State) (tag n : Nat), s.link.request = none →
    exec (.amendCellMissRun tag 0 n) s = .next
      (if 1 ≤ n ∧ n ≤ 9 then replied { s with cell := { s.cell with missRun := n } } tag 4 1 (plain .ok)
       else replied s tag 4 1 (plain .badField)) ∧
    exec (.amendCellDueCount tag 0 n) s = .next
      (if 1 ≤ n ∧ n ≤ 16 then replied { s with cell := { s.cell with dueCount := n } } tag 4 1 (plain .ok)
       else replied s tag 4 1 (plain .badField)) ∧
    exec (.amendCellWindow tag 0 [.width n]) s = .next
      (if 1 ≤ n ∧ n ≤ 8 then replied { s with cell := { s.cell with width := n } } tag 4 1 (plain .ok)
       else replied s tag 4 1 (plain .badField)) ∧
    exec (.amendCellWindow tag 0 [.clearance n]) s = .next
      (if n ≤ 3 then replied { s with cell := { s.cell with clearance := n } } tag 4 1 (plain .ok)
       else replied s tag 4 1 (plain .badField)) ∧
    exec (.amendCellFeed tag 0 [.elevate n]) s = .next
      (if 100 ≤ n ∧ n ≤ 10000 then replied { s with cell := { s.cell with elevate := n } } tag 4 1 (plain .ok)
       else replied s tag 4 1 (plain .badField)) ∧
    exec (.amendCellFeed tag 0 [.push n]) s = .next
      (if 100 ≤ n ∧ n ≤ 10000 then replied { s with cell := { s.cell with push := n } } tag 4 1 (plain .ok)
       else replied s tag 4 1 (plain .badField)) ∧
    exec (.amendCellFeed tag 0 [.transfer n]) s = .next
      (if 100 ≤ n ∧ n ≤ 10000 then replied { s with cell := { s.cell with transfer := n } } tag 4 1 (plain .ok)
       else replied s tag 4 1 (plain .badField)) ∧
    exec (.amendCellFeed tag 0 [.index n]) s = .next
      (if 100 ≤ n ∧ n ≤ 10000 then replied { s with cell := { s.cell with index := n } } tag 4 1 (plain .ok)
       else replied s tag 4 1 (plain .badField)) ∧
    exec (.amendCellFeed tag 0 [.runState]) s = .next (replied s tag 4 1 (plain .locked)) ∧
    (∀ g field, (g, field) ∈ [(Group.input, CellFeedField.inputCount n), (.output, .outputCount n)] →
      (n = 0 ∨ 40 < n → exec (.amendCellFeed tag 0 [field]) s = .next (replied s tag 4 1 (plain .badField))) ∧
      (1 ≤ n → n ≤ 40 → s.present g = true ∨ (s.group g).state = .held .magazineLost →
        exec (.amendCellFeed tag 0 [field]) s = .next (replied s tag 4 1 (plain .inUse))) ∧
      (1 ≤ n → n ≤ 40 → s.present g = false → (s.group g).state ≠ .held .magazineLost →
        ∃ t, exec (.amendCellFeed tag 0 [field]) s = .next t ∧
          t = { replied { s with feed :=
              if g = .input then { s.feed with
                inSlots := s.feed.inSlots.take n ++ List.replicate (n - s.feed.inSlots.length)
                  { state := .unknown, map := none, tag := none } }
              else { s.feed with
                outSlots := s.feed.outSlots.take n ++ List.replicate (n - s.feed.outSlots.length) .unknown } }
            tag 4 1 (plain .ok) with screen := t.screen })) ∧
    ∀ g field cell, (g, field, cell) ∈
        [(Group.input, CellFeedField.inputDirection n, fun d => { s.cell with inDirection := d }),
         (.output, .outputDirection n, fun d => { s.cell with outDirection := d })] →
      (n = 0 ∨ 2 < n → exec (.amendCellFeed tag 0 [field]) s = .next (replied s tag 4 1 (plain .badField))) ∧
      ∀ d, (n, d) ∈ [(1, Direction.bottomUp), (2, .topDown)] →
        (s.present g = true ∨ (s.group g).state = .held .magazineLost →
          exec (.amendCellFeed tag 0 [field]) s = .next (replied s tag 4 1 (plain .inUse))) ∧
        (s.present g = false → (s.group g).state ≠ .held .magazineLost →
          exec (.amendCellFeed tag 0 [field]) s = .next
            (replied { s with cell := cell d } tag 4 1 (plain .ok)))

/-- LOT_START sets the current lot id and, for every program, the sequence counter to 0 and the one-shot to DISARMED.
AMEND of CELL sets the current lot id to any value; the current program to 0 or to a program the table holds, and is
refused NO_SUCH for an id 1 to 16 that it does not hold. A lot id changes nothing else (R3, R150). That an id above 16
is BAD_FIELD is the model's reading (log 35). -/
def Obligations.LotAndProgramInForce : Prop :=
  ∀ (s : State) (tag lot id : Nat), s.link.request = none →
    exec (.lotStart tag lot) s = .next
      (replied { s with
        store := { s.store with lot }
        quality := { s.quality with
          sampling := s.quality.sampling.map fun q => { q with sequence := 0, armed := false } } }
        tag 7 1 (plain .ok)) ∧
    exec (.amendCellStrip tag 0 [.currentLot lot]) s = .next
      (replied { s with store := { s.store with lot } } tag 4 1 (plain .ok)) ∧
    (id = 0 ∨ id ≤ 16 ∧ (s.program id).isSome →
      ∃ t, exec (.amendCellStrip tag 0 [.currentProgram id]) s = .next t ∧ Holds t tag 4 1 (plain .ok) ∧
        t.store.program = id ∧ t.store.lot = s.store.lot ∧ t.store.nextStrip = s.store.nextStrip) ∧
    (1 ≤ id → id ≤ 16 → s.program id = none →
      exec (.amendCellStrip tag 0 [.currentProgram id]) s = .next (replied s tag 4 1 (plain .noSuch))) ∧
    (16 < id → exec (.amendCellStrip tag 0 [.currentProgram id]) s = .next (replied s tag 4 1 (plain .badField)))

/-- AMEND of CELL stores the heater settings within their ranges, set point 0 to 1,000, window 1 to 40, gain 0 to 64,
and refuses any other value BAD_FIELD, which changes nothing, of the other fields named with it too. The gain changes
nothing else; a new set point or window has the gate evaluated, and leaves the reading record (R107, R108). -/
def Obligations.HeaterSettingsStored : Prop :=
  ∀ (s : State) (tag n : Nat), s.link.request = none →
    exec (.amendCellHeater tag 0 [.gain n]) s = .next
      (if n ≤ 64 then replied { s with cell := { s.cell with gain := n } } tag 4 1 (plain .ok)
       else replied s tag 4 1 (plain .badField)) ∧
    (n ≤ 1000 → ∃ t, exec (.amendCellHeater tag 0 [.setPoint n]) s = .next t ∧ Holds t tag 4 1 (plain .ok) ∧
      t.cell = { s.cell with setPoint := n } ∧
      t.heater = { s.heater with gate := gateOf s.heater n s.cell.window }) ∧
    (1 ≤ n → n ≤ 40 → ∃ t, exec (.amendCellHeater tag 0 [.window n]) s = .next t ∧ Holds t tag 4 1 (plain .ok) ∧
      t.cell = { s.cell with window := n } ∧
      t.heater = { s.heater with gate := gateOf s.heater s.cell.setPoint n }) ∧
    ∀ fields field, field ∈ fields →
      ((∃ v, field = .setPoint v ∧ 1000 < v) ∨ (∃ v, field = .window v ∧ (v = 0 ∨ 40 < v)) ∨
        ∃ v, field = .gain v ∧ 64 < v) →
      exec (.amendCellHeater tag 0 fields) s = .next (replied s tag 4 1 (plain .badField))

/-! ## Strips and units -/

/-- REJECT_UNIT of a PENDING unit makes it REJECT with no fault part, whatever the strip's location; UNREJECT_UNIT of a
REJECT unit makes it PENDING while the strip is in PREHEAT, and on a strip in WINDOW that is not in motion when its
column is in force or not yet passed, where a head that asks may claim it at once; it is refused LOCKED for a passed
column, and on a strip in EXIT, in an output slot, DEPARTED, or in WINDOW and in motion. Of a CLAIMED unit both are
IN_USE, of one in any other state LOCKED; a position outside the grid is BAD_FIELD and an id not in the table NO_SUCH,
changing nothing (R2, R8, R14). That NO_SUCH comes first is the model's choice (log 15). -/
def Obligations.RejectAndUnreject : Prop :=
  ∀ (s : State) (tag id c r : Nat), s.link.request = none →
    (s.strip id = none →
      exec (.rejectUnit tag id c r) s = .next (replied s tag 7 2 (plain .noSuch)) ∧
      exec (.unrejectUnit tag id c r) s = .next (replied s tag 7 3 (plain .noSuch))) ∧
    ∀ strip, s.strip id = some strip →
      (strip.holds c r = false →
        exec (.rejectUnit tag id c r) s = .next (replied s tag 7 2 (plain .badField)) ∧
        exec (.unrejectUnit tag id c r) s = .next (replied s tag 7 3 (plain .badField))) ∧
      ∀ u, strip.entry c r = some u →
        (u.state = .pending → ∃ t, exec (.rejectUnit tag id c r) s = .next t ∧ Holds t tag 7 2 (plain .ok) ∧
          t.unit id c r = some { u with state := .reject, fault := none }) ∧
        (u.state = .reject → strip.location = .preheat →
          ∃ t, exec (.unrejectUnit tag id c r) s = .next t ∧ Holds t tag 7 3 (plain .ok) ∧
            t.unit id c r = some { u with state := .pending, fault := none }) ∧
        (u.state = .reject → strip.location = .window → strip.inMotion = false →
          (s.inForce c = true ∨ strip.nextColumn ≤ c →
            ∃ t v, exec (.unrejectUnit tag id c r) s = .next t ∧ Holds t tag 7 3 (plain .ok) ∧
              t.unit id c r = some v ∧ v.state ≠ .reject ∧ v.fault = none ∧
              (s.head1.asks = false → s.head2.asks = false → v = { u with state := .pending, fault := none })) ∧
          (s.inForce c = false → c < strip.nextColumn →
            exec (.unrejectUnit tag id c r) s = .next (replied s tag 7 3 (plain .locked)))) ∧
        (u.state = .reject →
          strip.location = .exit ∨ strip.location = .departed ∨ (∃ n, strip.location = .output n) ∨
            (strip.location = .window ∧ strip.inMotion = true) →
          exec (.unrejectUnit tag id c r) s = .next (replied s tag 7 3 (plain .locked))) ∧
        (∀ h, u.state = .claimed h →
          exec (.rejectUnit tag id c r) s = .next (replied s tag 7 2 (plain .inUse)) ∧
          exec (.unrejectUnit tag id c r) s = .next (replied s tag 7 3 (plain .inUse))) ∧
        (u.state ∈ [.skip, .bonded, .fault, .rework] →
          exec (.rejectUnit tag id c r) s = .next (replied s tag 7 2 (plain .locked)) ∧
          exec (.unrejectUnit tag id c r) s = .next (replied s tag 7 3 (plain .locked))) ∧
        (u.state = .reject → exec (.rejectUnit tag id c r) s = .next (replied s tag 7 2 (plain .locked))) ∧
        (u.state = .pending → exec (.unrejectUnit tag id c r) s = .next (replied s tag 7 3 (plain .locked)))

/-- RETIRE of a strip takes a DEPARTED strip that no pending ticket names out of the table; a strip elsewhere or named
by a ticket is refused IN_USE, an id not in the table NO_SUCH. A retirement from a full table releases an INPUT group in
HELD(TABLE_FULL), which examines its moves: in STOP it is IDLE; in RUN it begins the scan that is due, else the ELEVATE
of the next LOADED slot where a push-in can begin. A group held for another reason, or BUSY, goes on (R1, R18, R26,
R30). That a retirement from a table with room releases and examines nothing is the model's reading (log 32). -/
def Obligations.RetireStripOutcomes : Prop :=
  ∀ (s : State) (tag id : Nat), s.link.request = none →
    (s.strip id = none → exec (.retireStrip tag id) s = .next (replied s tag 5 2 (plain .noSuch))) ∧
    ∀ r, s.strip id = some r →
      ((r.location ≠ .departed ∨ ∃ k ∈ s.quality.tickets, k.strip = id) →
        exec (.retireStrip tag id) s = .next (replied s tag 5 2 (plain .inUse))) ∧
      (r.location = .departed → (∀ k ∈ s.quality.tickets, k.strip ≠ id) →
        ∃ t, exec (.retireStrip tag id) s = .next t ∧ Holds t tag 5 2 (plain .ok) ∧ t.strip id = none ∧
          t.store = { s.store with strips := removeBy Strip.id id s.store.strips } ∧
          (s.store.strips.length < 64 → t.feed = s.feed) ∧
          (s.feed.input.state ≠ .held .tableFull → s.feed.input.state ≠ .idle → t.feed = s.feed) ∧
          (64 ≤ s.store.strips.length → s.feed.input = waiting .tableFull →
            (s.feed.run = false → t.feed = { s.feed with input := .reset }) ∧
            (s.feed.run = true → s.feed.inScanDue = true →
              t.feed = { s.feed with input := started .scan s.cell.elevate, inScanDue := false } ∧
                t.out.track = [(.input, .scan)]) ∧
            (s.feed.run = true → s.feed.inScanDue = false →
              (s.feed.inPresent = false ∨ s.feed.preheat ≠ none → (∃ q ∈ s.feed.inSlots, q.state = .loaded) →
                t.feed = { s.feed with input := .reset }) ∧
              ∀ n, s.feed.inPresent = true → s.feed.preheat = none → s.store.strips.length = 64 →
                s.store.program ≠ 0 → s.program s.store.program ≠ none →
                NextSlot s.cell.inDirection (fun q : InSlot => q.state = .loaded) s.feed.inSlots n →
                t.feed = { s.feed with input := started (.elevate n) s.cell.elevate, inTarget := some n } ∧
                  t.out.track = [(.input, .elevate n)])))

/-! ## The feed -/

/-- PUT, AMEND and RETIRE of an input slot write its map and tag while the slot is UNKNOWN or LOADED and no move target;
the move target is IN_USE, an EMPTY, TAKEN or JAMMED slot LOCKED, a number above the slot count NO_SUCH, a map out of
form BAD_FIELD. A PUT with no map leaves none. Nothing else changes (R27). That an AMEND with no tag, or with no map,
takes the slot's tag or map away is the model's choice (log 25). -/
def Obligations.InputSlotWrites : Prop :=
  ∀ (s : State) (tag n : Nat) (hostTag : Option Nat), s.link.request = none →
    (nth s.feed.inSlots n = none →
      exec (.putInslot tag n none hostTag) s = .next (replied s tag 3 3 (plain .noSuch)) ∧
      exec (.amendInslot tag n [.tag hostTag]) s = .next (replied s tag 4 3 (plain .noSuch)) ∧
      exec (.retireInslot tag n) s = .next (replied s tag 5 3 (plain .noSuch))) ∧
    ∀ q, nth s.feed.inSlots n = some q →
      (∀ m, mapOk m = false →
        exec (.putInslot tag n (some m) hostTag) s = .next (replied s tag 3 3 (plain .badField)) ∧
        exec (.amendInslot tag n [.map (some m)]) s = .next (replied s tag 4 3 (plain .badField))) ∧
      (s.feed.inTarget = some n →
        exec (.putInslot tag n none hostTag) s = .next (replied s tag 3 3 (plain .inUse)) ∧
        exec (.amendInslot tag n [.tag hostTag]) s = .next (replied s tag 4 3 (plain .inUse)) ∧
        exec (.retireInslot tag n) s = .next (replied s tag 5 3 (plain .inUse))) ∧
      (s.feed.inTarget ≠ some n → q.state ∈ [.empty, .taken, .jammed] →
        exec (.putInslot tag n none hostTag) s = .next (replied s tag 3 3 (plain .locked)) ∧
        exec (.amendInslot tag n [.tag hostTag]) s = .next (replied s tag 4 3 (plain .locked)) ∧
        exec (.retireInslot tag n) s = .next (replied s tag 5 3 (plain .locked))) ∧
      (s.feed.inTarget ≠ some n → q.state ∈ [.unknown, .loaded] →
        (∀ m, mapOk m = true →
          exec (.putInslot tag n (some m) hostTag) s = .next
            (replied { s with feed := { s.feed with
                inSlots := updateNth s.feed.inSlots n fun q => { q with map := some (unitOrder m), tag := hostTag } } }
              tag 3 3 (plain .ok))) ∧
        exec (.putInslot tag n none hostTag) s = .next
          (replied { s with feed := { s.feed with
              inSlots := updateNth s.feed.inSlots n fun q => { q with map := none, tag := hostTag } } }
            tag 3 3 (plain .ok)) ∧
        (∀ m, mapOk m = true →
          exec (.amendInslot tag n [.map (some m)]) s = .next
            (replied { s with feed := { s.feed with
                inSlots := updateNth s.feed.inSlots n fun q => { q with map := some (unitOrder m) } } }
              tag 4 3 (plain .ok))) ∧
        exec (.amendInslot tag n [.map none]) s = .next
          (replied { s with feed := { s.feed with
              inSlots := updateNth s.feed.inSlots n fun q => { q with map := none } } } tag 4 3 (plain .ok)) ∧
        exec (.amendInslot tag n [.tag hostTag]) s = .next
          (replied { s with feed := { s.feed with
              inSlots := updateNth s.feed.inSlots n fun q => { q with tag := hostTag } } } tag 4 3 (plain .ok)) ∧
        exec (.retireInslot tag n) s = .next
          (replied { s with feed := { s.feed with
              inSlots := updateNth s.feed.inSlots n fun q => { q with map := none, tag := none } } }
            tag 5 3 (plain .ok)))

/-- FEED_RUN sets RUN and FEED_STOP sets STOP, in every state of the part, answered OK. FEED_STOP changes nothing else;
FEED_RUN moves no strip between zones and touches no slot, and has each group that is IDLE begin what stands to be
begun; any other group goes on. INPUT: the scan that is due; else, with a magazine present and PREHEAT empty, the
ELEVATE of the next LOADED slot in the side's direction, HELD(INPUT_EMPTY) with no such slot, HELD(TABLE_FULL) with 64
strips, and only the FEED flag with no usable current program (FULL before NO_SUCH: log 15). TRACK: TRANSFER(PREHEAT)
when the soak has elapsed and WINDOW is empty; with the columns in force done, the INDEX of at most W columns while
columns remain, and with none and EXIT empty TRANSFER(WINDOW), the window INDEXING or CLOSED and the asking heads
stalled so; that a CLOSED window counts as done, so that an exit given up is begun again, is log 6's reading. OUTPUT:
the scan that is due; else, with a magazine present and a strip in EXIT, the ELEVATE of the next EMPTY slot, or
HELD(OUTPUT_FULL). A strip whose move is begun is in motion. With a condition missing the group stays (R6, R20, R21,
R22, R26, R29, R30, R33, R34, R35, R36, R62). -/
def Obligations.FeedRunState : Prop :=
  ∀ (s : State) (tag : Nat), s.link.request = none →
    exec (.feedStop tag) s = .next (replied { s with feed := { s.feed with run := false } } tag 7 5 (plain .ok)) ∧
    ∃ t, exec (.feedRun tag) s = .next t ∧ Holds t tag 7 4 (plain .ok) ∧ t.feed.run = true ∧
      t.feed.inSlots = s.feed.inSlots ∧ t.feed.outSlots = s.feed.outSlots ∧ t.feed.preheat = s.feed.preheat ∧
      t.feed.window = s.feed.window ∧ t.feed.exit = s.feed.exit ∧ t.feed.soak = s.feed.soak ∧
      (∀ g, (s.group g).state ≠ .idle → t.group g = s.group g) ∧
      -- INPUT
      (s.feed.input.state = .idle → s.feed.inScanDue = true →
        t.feed.input = started .scan s.cell.elevate ∧ t.feed.inScanDue = false ∧ (.input, .scan) ∈ t.out.track) ∧
      (s.feed.input.state = .idle → s.feed.inScanDue = false →
        (s.feed.inPresent = false → t.feed.input = s.feed.input) ∧
        (s.feed.inPresent = true → s.feed.preheat ≠ none → (∃ q ∈ s.feed.inSlots, q.state = .loaded) →
          t.feed.input = s.feed.input) ∧
        (s.feed.inPresent = true → s.feed.preheat = none →
          ((∀ q ∈ s.feed.inSlots, q.state ≠ .loaded) →
            t.feed.input = waiting .inputEmpty ∧ t.link.flags &&& 0x008 = 0x008) ∧
          ∀ n, NextSlot s.cell.inDirection (fun q : InSlot => q.state = .loaded) s.feed.inSlots n →
            (64 ≤ s.store.strips.length →
              t.feed.input = waiting .tableFull ∧ t.link.flags &&& 0x004 = 0x004) ∧
            (s.store.strips.length < 64 → s.store.program = 0 ∨ s.program s.store.program = none →
              t.feed.input = s.feed.input ∧ t.link.flags &&& 0x004 = 0x004) ∧
            (s.store.strips.length < 64 → s.store.program ≠ 0 → s.program s.store.program ≠ none →
              t.feed.input = started (.elevate n) s.cell.elevate ∧ t.feed.inTarget = some n ∧
                (.input, .elevate n) ∈ t.out.track))) ∧
      -- TRACK
      (s.feed.track.state = .idle → s.feed.window = none →
        (s.feed.preheat = none ∨ s.feed.soak ≠ .elapsed → t.feed.track = s.feed.track) ∧
        ∀ id r, liesIn s .preheat id r → s.feed.soak = .elapsed →
          t.feed.track = started .transferPreheat s.cell.transfer ∧ (.track, .transferPreheat) ∈ t.out.track ∧
            ∃ q, t.strip id = some q ∧ q.inMotion = true) ∧
      (∀ id r, s.feed.track.state = .idle → liesIn s .window id r →
        (¬ WindowDone s r → t.feed.track = s.feed.track) ∧
        (WindowDone s r → r.nextColumn ≤ r.columns →
          let k := min s.cell.width (r.columns + 1 - r.nextColumn)
          t.feed.track = started (.index k) s.cell.index ∧ (.track, .index k) ∈ t.out.track ∧
            t.arbiter.window = .indexing ∧ (∃ q, t.strip id = some q ∧ q.inMotion = true) ∧
            ∀ h, (s.head h).asks = true → (t.head h).state = .stalled .index) ∧
        (WindowDone s r → r.columns < r.nextColumn →
          (s.feed.exit ≠ none → t.feed.track = s.feed.track) ∧
          (s.feed.exit = none →
            t.feed.track = started .transferWindow s.cell.transfer ∧ (.track, .transferWindow) ∈ t.out.track ∧
              t.arbiter.window = .closed ∧ (∃ q, t.strip id = some q ∧ q.inMotion = true) ∧
              ∀ h, (s.head h).asks = true → (t.head h).state = .stalled .noUnit))) ∧
      -- OUTPUT
      (s.feed.output.state = .idle → s.feed.outScanDue = true →
        t.feed.output = started .scan s.cell.elevate ∧ t.feed.outScanDue = false ∧ (.output, .scan) ∈ t.out.track) ∧
      (s.feed.output.state = .idle → s.feed.outScanDue = false →
        (s.feed.outPresent = false ∨ s.feed.exit = none → t.feed.output = s.feed.output) ∧
        ∀ id r, s.feed.outPresent = true → liesIn s .exit id r →
          ((∀ q ∈ s.feed.outSlots, q ≠ .empty) →
            t.feed.output = waiting .outputFull ∧ t.link.flags &&& 0x008 = 0x008) ∧
          ∀ n, NextSlot s.cell.outDirection (fun q : OutSlot => q = .empty) s.feed.outSlots n →
            t.feed.output = started (.elevate n) s.cell.elevate ∧ t.feed.outTarget = some n ∧
              (.output, .elevate n) ∈ t.out.track ∧ ∃ q, t.strip id = some q ∧ q.inMotion = true)

/-- FEED_CLEAR by the order that the group holds and by the disposition. TRANSFER(PREHEAT): COMPLETED is a window entry:
the strip lies in WINDOW with the generation its program has once its staging is applied and the next window column 1 +
min(W, columns); BACK leaves it in PREHEAT with the soak elapsed; REMOVED takes it off. INDEX: COMPLETED advances the
strip and opens the next columns, BACK opens the columns from before. TRANSFER(WINDOW): COMPLETED takes the strip to
EXIT, BACK leaves it; REMOVED of either takes it off and closes the window; a strip that leaves WINDOW signals
window-left. SCAN: a scan is due again. ELEVATE: COMPLETED sends the PUSH. The IN PUSH: COMPLETED makes the record, or
is refused FULL or NO_SUCH and stays held, the STRIP flag set (FULL first: log 15); another disposition jams the slot.
The OUT PUSH: COMPLETED fills the slot; BACK leaves the strip in EXIT, REMOVED takes it off. With the magazine lost, a
scan is due only if one is present, an ELEVATE moves nothing, a push-in makes its record with no map, and a push-out's
strip departs. What a group at rest begins next is told for STOP, in which it begins nothing. Of a group that is IDLE,
BUSY or held for want of slots or records each disposition is LOCKED, and a group outside the three BAD_FIELD, changing
nothing (R4, R6, R31, R33, R39, R40, R41, R42, R56, R62, R148; the group code by log 35). -/
def Obligations.FeedClearOutcomes : Prop :=
  ∀ (s : State) (tag n id : Nat) (r : Strip), s.link.request = none →
    (s.feed.track.state = .held .jam → s.feed.track.jammed = some .transferPreheat → s.feed.preheat = some id →
      s.strip id = some r → r.location = .preheat →
      (∃ t q, exec (.feedClearCompleted tag 2) s = .next t ∧ Holds t tag 7 6 (plain .ok) ∧ t.feed.window = some id ∧
        t.feed.preheat = none ∧ t.feed.soak = .idle ∧ t.strip id = some q ∧ q.location = .window ∧
        q.nextColumn = 1 + min s.cell.width r.columns ∧
        q.generation = some ((s.program r.program).elim 0 fun p => p.applyStaged.generation)) ∧
      (∃ t q, exec (.feedClearBack tag 2) s = .next t ∧ Holds t tag 7 6 (plain .ok) ∧ t.feed.preheat = some id ∧
        t.feed.soak = .elapsed ∧ t.strip id = some q ∧ q.location = .preheat ∧
        (s.feed.run = false → q.inMotion = false ∧ t.feed.track.state = .idle)) ∧
      (∃ t q, exec (.feedClearRemoved tag 2) s = .next t ∧ Holds t tag 7 6 (plain .ok) ∧ t.feed.preheat = none ∧
        t.feed.soak = .idle ∧ t.strip id = some q ∧ q.location = .departed ∧ q.inMotion = false)) ∧
    (∀ g, groupOfCode n = some g → (s.group g).state ≠ .held .jam → (s.group g).state ≠ .held .magazineLost →
      exec (.feedClearCompleted tag n) s = .next (replied s tag 7 6 (plain .locked)) ∧
      exec (.feedClearBack tag n) s = .next (replied s tag 7 6 (plain .locked)) ∧
      exec (.feedClearRemoved tag n) s = .next (replied s tag 7 6 (plain .locked))) ∧
    (groupOfCode n = none →
      exec (.feedClearCompleted tag n) s = .next (replied s tag 7 6 (plain .badField)) ∧
      exec (.feedClearBack tag n) s = .next (replied s tag 7 6 (plain .badField)) ∧
      exec (.feedClearRemoved tag n) s = .next (replied s tag 7 6 (plain .badField))) ∧
    -- INDEX
    (∀ k, holdsOrder s .track .jam (.index k) → liesIn s .window id r →
      (∃ t q, exec (clearing .completed tag .track) s = .next t ∧ Holds t tag 7 6 (plain .ok) ∧ t.strip id = some q ∧
        q.location = .window ∧ q.nextColumn = r.nextColumn + k ∧
        (s.feed.run = false → q.inMotion = false ∧ t.feed = { s.feed with track := .reset, beforeIndex := none } ∧
          t.arbiter.window = .opened r.nextColumn (r.nextColumn + k - 1) ∧ t.arbiter.clearance = s.cell.clearance)) ∧
      (∀ a b, s.feed.beforeIndex = some (a, b) → s.feed.run = false →
        ∃ t q, exec (clearing .back tag .track) s = .next t ∧ Holds t tag 7 6 (plain .ok) ∧ t.strip id = some q ∧
          q.location = .window ∧ q.nextColumn = r.nextColumn ∧ q.inMotion = false ∧
          t.feed = { s.feed with track := .reset, beforeIndex := none } ∧ t.arbiter.window = .opened a b ∧
          t.arbiter.clearance = s.cell.clearance) ∧
      ∃ t, exec (clearing .removed tag .track) s = .next t ∧ Holds t tag 7 6 (plain .ok) ∧ TakenOff t id r ∧
        WindowLeft s t ∧ t.feed.window = none ∧ t.arbiter.window = .closed ∧
        (s.feed.run = false → t.feed = { s.feed with track := .reset, window := none, beforeIndex := none })) ∧
    -- TRANSFER(WINDOW)
    (holdsOrder s .track .jam .transferWindow → liesIn s .window id r →
      (∃ t q, exec (clearing .completed tag .track) s = .next t ∧ Holds t tag 7 6 (plain .ok) ∧ WindowLeft s t ∧
        t.feed.window = none ∧ t.feed.exit = some id ∧ t.strip id = some q ∧ q.location = .exit ∧
        (s.feed.run = false → q.inMotion = false ∧
          t.feed = { s.feed with track := .reset, window := none, exit := some id })) ∧
      (s.feed.run = false → ∃ t, exec (clearing .back tag .track) s = .next t ∧ Holds t tag 7 6 (plain .ok) ∧
        t.strip id = some { r with inMotion := false } ∧ t.feed = { s.feed with track := .reset }) ∧
      ∃ t, exec (clearing .removed tag .track) s = .next t ∧ Holds t tag 7 6 (plain .ok) ∧ TakenOff t id r ∧
        WindowLeft s t ∧ t.feed.window = none ∧ t.arbiter.window = .closed ∧
        (s.feed.run = false → t.feed = { s.feed with track := .reset, window := none })) ∧
    -- the scans, jammed and lost
    (∀ d, s.feed.run = false →
      (holdsOrder s .input .jam .scan ∨ holdsOrder s .input .magazineLost .scan →
        ∃ t, exec (clearing d tag .input) s = .next t ∧ Holds t tag 7 6 (plain .ok) ∧
          t.feed = { s.feed with
            input := .reset
            inScanDue := if s.feed.input.state = .held .jam ∨ s.feed.inPresent = true then true
                         else s.feed.inScanDue }) ∧
      (holdsOrder s .output .jam .scan ∨ holdsOrder s .output .magazineLost .scan →
        ∃ t, exec (clearing d tag .output) s = .next t ∧ Holds t tag 7 6 (plain .ok) ∧
          t.feed = { s.feed with
            output := .reset
            outScanDue := if s.feed.output.state = .held .jam ∨ s.feed.outPresent = true then true
                          else s.feed.outScanDue })) ∧
    -- an elevate that is completed
    (∀ g k, g ≠ .track → holdsOrder s g .jam (.elevate k) →
      ∃ t, exec (clearing .completed tag g) s = .next t ∧ Holds t tag 7 6 (plain .ok) ∧ t.out.track = [(g, .push k)] ∧
        t.feed = (s.setGroup g { state := .busy (.push k), jammed := none, timer := some s.cell.push
                                 limit := s.cell.push }).feed) ∧
    -- the push-in
    (∀ d o k, d ≠ .completed → o = .elevate k ∨ o = .push k → s.feed.run = false →
      (holdsOrder s .input .jam o →
        ∃ t, exec (clearing d tag .input) s = .next t ∧ Holds t tag 7 6 (plain .ok) ∧
          t.feed = { s.feed with
            input := .reset, inTarget := none
            inSlots := updateNth s.feed.inSlots k fun q => { q with state := .jammed, map := none } }) ∧
      (holdsOrder s .input .magazineLost o →
        ∃ t, exec (clearing d tag .input) s = .next t ∧ Holds t tag 7 6 (plain .ok) ∧
          t.feed = { s.feed with input := .reset })) ∧
    (∀ k, holdsOrder s .input .magazineLost (.elevate k) → s.feed.run = false →
      ∃ t, exec (clearing .completed tag .input) s = .next t ∧ Holds t tag 7 6 (plain .ok) ∧
        t.feed = { s.feed with input := .reset }) ∧
    (∀ k, holdsOrder s .input .jam (.push k) ∨ holdsOrder s .input .magazineLost (.push k) →
      (64 ≤ s.store.strips.length →
        exec (clearing .completed tag .input) s = .next ((replied s tag 7 6 (plain .full)).raise .strip)) ∧
      (s.store.strips.length < 64 → s.store.program = 0 ∨ s.program s.store.program = none →
        exec (clearing .completed tag .input) s = .next ((replied s tag 7 6 (plain .noSuch)).raise .strip))) ∧
    (∀ p k, canPush s p →
      (holdsOrder s .input .jam (.push k) →
        ∃ t, exec (clearing .completed tag .input) s = .next t ∧ Holds t tag 7 6 (plain .ok) ∧
          PushedIn s t p k (((nth s.feed.inSlots k).bind InSlot.map).getD []) ∧
          t.feed.inSlots = updateNth s.feed.inSlots k fun q => { q with state := .taken, map := none }) ∧
      (holdsOrder s .input .magazineLost (.push k) →
        ∃ t, exec (clearing .completed tag .input) s = .next t ∧ Holds t tag 7 6 (plain .ok) ∧
          PushedIn s t p k [] ∧ t.feed.inSlots = s.feed.inSlots)) ∧
    -- the push-out
    (∀ reason d o k, reason ∈ [.jam, .magazineLost] → o = .elevate k ∨ o = .push k → d ≠ .completed →
      holdsOrder s .output reason o → liesIn s .exit id r → s.feed.run = false →
      ∃ t, exec (clearing d tag .output) s = .next t ∧ Holds t tag 7 6 (plain .ok) ∧
        (d = .back → t.strip id = some { r with inMotion := false } ∧
          t.feed = { s.feed with output := .reset, outTarget := none }) ∧
        (d = .removed → TakenOff t id r ∧
          t.feed = { s.feed with output := .reset, outTarget := none, exit := none })) ∧
    (∀ k, holdsOrder s .output .magazineLost (.elevate k) → liesIn s .exit id r → s.feed.run = false →
      ∃ t, exec (clearing .completed tag .output) s = .next t ∧ Holds t tag 7 6 (plain .ok) ∧
        t.strip id = some { r with inMotion := false } ∧
        t.feed = { s.feed with output := .reset, outTarget := none }) ∧
    ∀ k, holdsOrder s .output .jam (.push k) ∨ holdsOrder s .output .magazineLost (.push k) → liesIn s .exit id r →
      s.feed.run = false →
      ∃ t, exec (clearing .completed tag .output) s = .next t ∧ Holds t tag 7 6 (plain .ok) ∧
        (s.feed.output.state = .held .jam → t.strip id = some { r with location := .output k, inMotion := false } ∧
          t.feed = { s.feed with
            output := .reset, outTarget := none, exit := none
            outSlots := updateNth s.feed.outSlots k fun _ => .filled id }) ∧
        (s.feed.output.state = .held .magazineLost →
          t.strip id = some { r with location := .departed, inMotion := false } ∧ t.link.flags &&& 0x040 = 0x040 ∧
          t.feed = { s.feed with output := .reset, outTarget := none, exit := none })

/-- DONE of an ELEVATE sends the PUSH of the same slot, in RUN and in STOP, timed by the push timeout. DONE of a
PUSH_OUT makes the slot FILLED with the strip in EXIT, whose location becomes that slot, and empties EXIT. DONE of a
SCAN sets the MAGAZINE flag. DONE of an IN PUSH makes the strip's record, and the slot is TAKEN; when the table is full
or no program is current, the group is HELD(JAM) with the push instead. DONE of TRANSFER(PREHEAT) is the window entry,
of INDEX the next columns, of TRANSFER(WINDOW) the exit, with window-left. What a group at rest begins next is told for
STOP. DONE of a group that is not BUSY changes nothing (R4, R5, R20, R21, R26, R31, R33, R34, R35, R36, R38, R56, R62,
R148). -/
def Obligations.DoneEndsOrder : Prop :=
  ∀ (s : State) (n : Nat),
    (∀ g, (s.group g).state = .busy (.elevate n) →
      ∃ t, exec (.done g) s = .next t ∧ (t.group g).state = .busy (.push n) ∧ t.out.track = [(g, .push n)] ∧
        (t.group g).timer = some s.cell.push ∧ t.feed.inSlots = s.feed.inSlots ∧ t.feed.outSlots = s.feed.outSlots) ∧
    (∀ id r, s.feed.output.state = .busy (.push n) → s.feed.exit = some id → s.strip id = some r →
      r.location = .exit →
      ∃ t q, exec (.done .output) s = .next t ∧ t.feed.exit = none ∧
        t.feed.outSlots = updateNth s.feed.outSlots n (fun _ => .filled id) ∧ t.strip id = some q ∧
        q.location = .output n) ∧
    (∀ g, (∀ o, (s.group g).state ≠ .busy o) → exec (.done g) s = .next (quiet s)) ∧
    (∀ g, g ≠ .track → (s.group g).state = .busy .scan →
      ∃ t, exec (.done g) s = .next t ∧ t.link.flags &&& 0x008 = 0x008 ∧ t.feed.inSlots = s.feed.inSlots ∧
        t.feed.outSlots = s.feed.outSlots ∧ (s.feed.run = false → t.feed = (s.setGroup g .reset).feed)) ∧
    (s.feed.input.state = .busy (.push n) →
      (∀ p, canPush s p →
        ∃ t, exec (.done .input) s = .next t ∧
          PushedIn s t p n (((nth s.feed.inSlots n).bind InSlot.map).getD []) ∧
          (t.feed.inSlots = updateNth s.feed.inSlots n fun q => { q with state := .taken, map := none }) ∧
          (s.feed.run = false → t.feed.input = .reset ∧ t.feed.inTarget = none)) ∧
      (64 ≤ s.store.strips.length ∨ s.store.program = 0 ∨ s.program s.store.program = none →
        exec (.done .input) s = .next (quiet ((({ s with feed := { s.feed with
          input := { state := .held .jam, jammed := some (.push n), timer := none, limit := 0 }
          inTarget := some n } } : State).raise .strip).raise .feed)))) ∧
    ∀ id r,
      (s.feed.track.state = .busy .transferPreheat → liesIn s .preheat id r →
        ∃ t q, exec (.done .track) s = .next t ∧ t.feed.window = some id ∧ t.feed.preheat = none ∧
          t.feed.soak = .idle ∧ t.strip id = some q ∧ q.location = .window ∧
          q.nextColumn = 1 + min s.cell.width r.columns ∧
          q.generation = some ((s.program r.program).elim 0 fun p => p.applyStaged.generation) ∧
          (s.feed.run = false → q.inMotion = false ∧ t.feed.track = .reset ∧
            t.arbiter.window = .opened 1 (min s.cell.width r.columns) ∧ t.arbiter.clearance = s.cell.clearance)) ∧
      (∀ k, s.feed.track.state = .busy (.index k) → liesIn s .window id r →
        ∃ t q, exec (.done .track) s = .next t ∧ t.strip id = some q ∧ q.location = .window ∧
          q.nextColumn = r.nextColumn + k ∧
          (s.feed.run = false → q.inMotion = false ∧ t.feed = { s.feed with track := .reset, beforeIndex := none } ∧
            t.arbiter.window = .opened r.nextColumn (r.nextColumn + k - 1) ∧
            t.arbiter.clearance = s.cell.clearance)) ∧
      (s.feed.track.state = .busy .transferWindow → liesIn s .window id r →
        ∃ t q, exec (.done .track) s = .next t ∧ WindowLeft s t ∧ t.feed.window = none ∧ t.feed.exit = some id ∧
          t.strip id = some q ∧ q.location = .exit ∧
          (s.feed.run = false → q.inMotion = false ∧
            t.feed = { s.feed with track := .reset, window := none, exit := some id }))

/-- JAM, and the expiry of an order's timeout, take a BUSY group to HELD(JAM) with its order as the jammed order and set
the FEED flag; slots, zones and strips stay. Of a group that is not BUSY they change nothing (R20, R22); that a timeout
of such a group does so is the model's choice (log 3). -/
def Obligations.JamHoldsGroup : Prop :=
  ∀ (s : State) (g : Group),
    (∀ o, (s.group g).state = .busy o →
      exec (.jam g) s = .next (quiet ((s.setGroup g
        { state := .held .jam, jammed := some o, timer := none, limit := 0 }).raise .feed)) ∧
      ((s.group g).timer.isSome →
        exec (.orderTimeout g) s = .next (quiet ((s.setGroup g
          { state := .held .jam, jammed := some o, timer := none, limit := 0 }).raise .feed)))) ∧
    ((∀ o, (s.group g).state ≠ .busy o) →
      exec (.jam g) s = .next (quiet s) ∧ exec (.orderTimeout g) s = .next (quiet s))

/-- SLOT_SEEN of a scan sets the slot's state and restarts the scan's timer: an input slot seen occupied is LOADED with
its map and tag kept, seen empty it is EMPTY with its map discarded; an output slot is UNKNOWN or EMPTY. Outside a scan,
or for a slot above the count, it changes nothing (R20, R22, R24, R26). That the timer starts again from the timeout the
scan was sent with (log 35), and that slot 0 is discarded too (log 36), is the model's choice. -/
def Obligations.SlotSeenInScan : Prop :=
  ∀ (s : State) (n : Nat) (occupied : Bool),
    (s.feed.input.state = .busy .scan → 1 ≤ n → n ≤ s.feed.inSlots.length →
      ∃ t, exec (.slotSeen .input n occupied) s = .next t ∧ t.feed =
        { s.feed with
          input := { s.feed.input with timer := some s.feed.input.limit }
          inSlots := updateNth s.feed.inSlots n fun q =>
            if occupied then { q with state := .loaded } else { q with state := .empty, map := none } }) ∧
    (s.feed.output.state = .busy .scan → 1 ≤ n → n ≤ s.feed.outSlots.length →
      ∃ t, exec (.slotSeen .output n occupied) s = .next t ∧ t.feed =
        { s.feed with
          output := { s.feed.output with timer := some s.feed.output.limit }
          outSlots := updateNth s.feed.outSlots n fun _ => if occupied then .unknown else .empty }) ∧
    (s.feed.input.state ≠ .busy .scan ∨ n = 0 ∨ s.feed.inSlots.length < n →
      exec (.slotSeen .input n occupied) s = .next (quiet s)) ∧
    (s.feed.output.state ≠ .busy .scan ∨ n = 0 ∨ s.feed.outSlots.length < n →
      exec (.slotSeen .output n occupied) s = .next (quiet s)) ∧
    exec (.slotSeen .track n occupied) s = .next (quiet s)

/-- A presence line that rises keeps every slot as it stands, sets the MAGAZINE flag, and has the side scanned: at once
when the feed is in RUN with the group IDLE, else the scan is due and the group goes on. A line that falls returns every
slot to UNKNOWN, releases the move target, clears the scan-due mark and sets the MAGAZINE flag; a group that is BUSY, or
HELD(JAM), is HELD(MAGAZINE_LOST) with its order in flight or its jammed order, and sets the FEED flag; one that is
HELD(MAGAZINE_LOST) already stays so; an IDLE one stays IDLE, and one HELD for want of a slot or of a record goes to
IDLE; the strips of FILLED output slots are DEPARTED (R6, R25, R26). -/
def Obligations.PresenceLines : Prop :=
  ∀ s : State,
    (s.feed.inPresent = false → ∃ t, exec (.presenceRise .input) s = .next t ∧ t.feed.inPresent = true ∧
      t.feed.inSlots = s.feed.inSlots ∧ t.link.flags &&& 0x008 = 0x008 ∧
      (s.feed.run = true → s.feed.input.state = .idle →
        t.feed.input.state = .busy .scan ∧ t.feed.inScanDue = false ∧ t.out.track = [(.input, .scan)]) ∧
      (s.feed.run = false ∨ s.feed.input.state ≠ .idle → t.feed.inScanDue = true ∧ t.feed.input = s.feed.input)) ∧
    (s.feed.outPresent = false → ∃ t, exec (.presenceRise .output) s = .next t ∧ t.feed.outPresent = true ∧
      t.feed.outSlots = s.feed.outSlots ∧ t.link.flags &&& 0x008 = 0x008 ∧
      (s.feed.run = true → s.feed.output.state = .idle →
        t.feed.output.state = .busy .scan ∧ t.feed.outScanDue = false ∧ t.out.track = [(.output, .scan)]) ∧
      (s.feed.run = false ∨ s.feed.output.state ≠ .idle → t.feed.outScanDue = true ∧ t.feed.output = s.feed.output)) ∧
    (s.feed.inPresent = true → ∃ t, exec (.presenceFall .input) s = .next t ∧ t.feed.inPresent = false ∧
      t.feed.inScanDue = false ∧ t.feed.inTarget = none ∧ t.link.flags &&& 0x008 = 0x008 ∧
      t.feed.inSlots = List.replicate s.feed.inSlots.length { state := .unknown, map := none, tag := none } ∧
      (s.feed.input.state = .idle → t.feed.input.state = .idle) ∧
      (∀ o, s.feed.input.state = .busy o →
        t.feed.input.state = .held .magazineLost ∧ t.feed.input.jammed = some o ∧ t.link.flags &&& 0x004 = 0x004) ∧
      (∀ o, s.feed.input.state = .busy o ∨ (s.feed.input.state = .held .jam ∧ s.feed.input.jammed = some o) →
        t.feed.input = { state := .held .magazineLost, jammed := some o, timer := none, limit := 0 } ∧
          t.link.flags &&& 0x004 = 0x004) ∧
      (s.feed.input.state = .held .magazineLost → t.feed.input = s.feed.input) ∧
      (s.feed.input.state ∈ [.idle, .held .inputEmpty, .held .outputFull, .held .tableFull] →
        t.feed.input = .reset)) ∧
    (s.feed.outPresent = true → ∃ t, exec (.presenceFall .output) s = .next t ∧ t.feed.outPresent = false ∧
      t.feed.outScanDue = false ∧ t.feed.outTarget = none ∧ t.link.flags &&& 0x008 = 0x008 ∧
      t.feed.outSlots = List.replicate s.feed.outSlots.length .unknown ∧
      (s.feed.output.state = .idle → t.feed.output.state = .idle) ∧
      (∀ o, s.feed.output.state = .busy o →
        t.feed.output.state = .held .magazineLost ∧ t.feed.output.jammed = some o ∧ t.link.flags &&& 0x004 = 0x004) ∧
      (∀ o, s.feed.output.state = .busy o ∨ (s.feed.output.state = .held .jam ∧ s.feed.output.jammed = some o) →
        t.feed.output = { state := .held .magazineLost, jammed := some o, timer := none, limit := 0 } ∧
          t.link.flags &&& 0x004 = 0x004) ∧
      (s.feed.output.state = .held .magazineLost → t.feed.output = s.feed.output) ∧
      (s.feed.output.state ∈ [.idle, .held .inputEmpty, .held .outputFull, .held .tableFull] →
        t.feed.output = .reset) ∧
      ∀ id r k, .filled id ∈ s.feed.outSlots → s.strip id = some r → r.location = .output k →
        ∃ q, t.strip id = some q ∧ q.location = .departed)

/-- The running soak timer that reaches 0 is elapsed; with the feed in RUN, TRACK IDLE, WINDOW empty and a strip in
PREHEAT, TRANSFER(PREHEAT) is begun in the same step; a timer that does not run is left, the model's choice (log 3). A
step with no command waiting is one millisecond (log 2): every timer that runs falls by one, the age of the reading and
the times of the touch rise (log 21), and when none stands at its end nothing else changes; when one stands at its end,
the step is its event: freshness, soak, the order of a group, the step or the stop of a head, the gauge frame, the dim
time (R22, R29, R32, R33, R84, R94, R104, R106, R168, R187). -/
def Obligations.SoakElapsedStartsEntry : Prop :=
  ∀ s : State,
    (∀ ms, s.feed.soak = .running ms → ∃ t, exec .soakElapsed s = .next t ∧ t.feed.soak = .elapsed ∧
      (s.feed.run = true → s.feed.track.state = .idle → s.feed.window = none → s.feed.preheat.isSome →
        t.feed.track.state = .busy .transferPreheat ∧ t.out.track = [(.track, .transferPreheat)])) ∧
    ((∀ ms, s.feed.soak ≠ .running ms) → exec .soakElapsed s = .next (quiet s)) ∧
    (s.pending = [] →
      (expiring (counted s) = [] → step s = .next (quiet (counted s))) ∧
      ∀ e, expiring (counted s) = [e] → step s = exec e (counted s))

/-! ## Programs -/

/-- PUT of PROGRAM creates a program with no wires, generation 0 and no staged copy, with its sampling record, and
refuses in the order NO_SUCH, EXISTS, BAD_FIELD; RETIRE takes out one that is neither current nor named by a strip, with
its sampling record, and refuses one that is IN_USE (R45, R55, R135). -/
def Obligations.ProgramCreatedAndRetired : Prop :=
  ∀ (s : State) (tag id : Nat) (b : ProgramBody), s.link.request = none →
    (id = 0 ∨ 16 < id → exec (.putProgram tag id b) s = .next (replied s tag 3 5 (plain .noSuch))) ∧
    (1 ≤ id → id ≤ 16 → s.program id ≠ none →
      exec (.putProgram tag id b) s = .next (replied s tag 3 5 (plain .exists_))) ∧
    (1 ≤ id → id ≤ 16 → s.program id = none → copyOk (copyOfBody b) = false →
      exec (.putProgram tag id b) s = .next (replied s tag 3 5 (plain .badField))) ∧
    (1 ≤ id → id ≤ 16 → s.program id = none → copyOk (copyOfBody b) = true →
      ∃ t, exec (.putProgram tag id b) s = .next t ∧ Holds t tag 3 5 (plain .ok) ∧
        t.program id = some { id, generation := 0, active := copyOfBody b, staged := none } ∧
        t.sampling id = some { program := id, sequence := 0, armed := false, emptySelections := 0
                               missedSamples := 0 } ∧
        ∀ k, k ≠ id → t.program k = s.program k) ∧
    (1 ≤ id → s.store.program = id ∨ (∃ r ∈ s.store.strips, r.program = id) →
      exec (.retireProgram tag id) s = .next (replied s tag 5 5 (plain .inUse))) ∧
    (s.store.program ≠ id → (∀ r ∈ s.store.strips, r.program ≠ id) → s.program id ≠ none →
      exec (.retireProgram tag id) s = .next
        (replied { s with programs := removeBy Program.id id s.programs
                          quality := { s.quality with sampling := removeBy Sampling.program id s.quality.sampling } }
          tag 5 5 (plain .ok)))

/-- PROGRAM_APPLY: NO_SUCH for a program not in the table, LOCKED with no staged copy, IN_USE while a strip in PREHEAT
or WINDOW carries it; else the staged copy becomes the active copy, the flag is cleared and the generation advances by
one, wrapping. Nothing else changes (R48, R57). That LOCKED comes before IN_USE is the model's choice (log 15). -/
def Obligations.ProgramApplyOutcomes : Prop :=
  ∀ (s : State) (tag id : Nat), s.link.request = none →
    (s.program id = none → exec (.programApply tag id) s = .next (replied s tag 7 7 (plain .noSuch))) ∧
    ∀ p, s.program id = some p →
      (p.staged = none → exec (.programApply tag id) s = .next (replied s tag 7 7 (plain .locked))) ∧
      ∀ c, p.staged = some c →
        ((∃ r ∈ s.store.strips, r.program = id ∧ (r.location = .preheat ∨ r.location = .window)) →
          exec (.programApply tag id) s = .next (replied s tag 7 7 (plain .inUse))) ∧
        ((∀ r ∈ s.store.strips, r.program = id → r.location ≠ .preheat ∧ r.location ≠ .window) →
          ∃ t, exec (.programApply tag id) s = .next t ∧
            t.program id = some { id := p.id, active := c, staged := none,
                                  generation := if p.generation < 65535 then p.generation + 1 else 0 } ∧
            (∀ k, k ≠ id → t.program k = s.program k) ∧
            t = { replied s tag 7 7 (plain .ok) with programs := t.programs })

/-- PUT, AMEND and RETIRE of a wire are judged against the program's target copy, the staged one where there is one, and
land where a change of the program lands: in the active copy at once, the generation advanced by one, of a program that
is neither in use nor staging; else in the staged copy, made whole from the active one where there is none, the
generation staying. PUT replaces the wire of an index that is held and appends at index n + 1; above n + 1 or 600 it is
BAD_FIELD. AMEND writes each field of the record, adds a bump part with its bond set and removes it; a part added
without one is BAD_FIELD. RETIRE takes the last wire alone, LOCKED for an earlier one and NO_SUCH for any other. A field
out of range or a copy out of bounds is BAD_FIELD, a class not in the table NO_SUCH, and FULL what wire memory does not
cover. That an AMEND naming the index is LOCKED, and the order of its refusals, is the model's choice (log 15) (R46,
R47, R48, R49, R50, R51, R52, R53). -/
def Obligations.WireWritesReachActiveCopy : Prop :=
  ∀ (s : State) (tag id : Nat) (p : Program) (w : Wire), s.link.request = none → s.program id = some p →
    TablesOk s →
    (p.staged = none → s.inUse id = false →
      (recordsUsed s.programs < 4096 → p.active.wires.length < 600 → wireOk w = true →
        ({ p.active with wires := p.active.wires ++ [w] }).inBounds = true → (s.cls w.cls).isSome →
        ∃ t, exec (.putWire tag id (p.active.wires.length + 1) w) s = .next t ∧
          t.program id = some { p with active := { p.active with wires := p.active.wires ++ [w] }
                                       generation := if p.generation < 65535 then p.generation + 1 else 0 } ∧
          (∀ k, k ≠ id → t.program k = s.program k) ∧
          t = { replied s tag 3 6 (plain .ok) with programs := t.programs }) ∧
      (∀ n, p.active.wires.length + 1 < n →
        exec (.putWire tag id n w) s = .next (replied s tag 3 6 (plain .badField))) ∧
      (∀ n v m, nth p.active.wires n = some v → wireOk { v with tail := m } = true →
        ({ p.active with wires := updateNth p.active.wires n fun _ => { v with tail := m } }).inBounds = true →
        ∃ t, exec (.amendWire tag id n [.tail m]) s = .next t ∧
          t.program id = some
            { p with active := { p.active with wires := updateNth p.active.wires n fun _ => { v with tail := m } }
                     generation := if p.generation < 65535 then p.generation + 1 else 0 } ∧
          t = { replied s tag 4 6 (plain .ok) with programs := t.programs }) ∧
      (1 ≤ p.active.wires.length →
        ∃ t, exec (.retireWire tag id p.active.wires.length) s = .next t ∧
          t.program id = some { p with active := { p.active with wires := p.active.wires.dropLast }
                                       generation := if p.generation < 65535 then p.generation + 1 else 0 } ∧
          t = { replied s tag 5 6 (plain .ok) with programs := t.programs }) ∧
      (∀ n, 1 ≤ n → n < p.active.wires.length →
        exec (.retireWire tag id n) s = .next (replied s tag 5 6 (plain .locked))) ∧
      (∀ n, n = 0 ∨ p.active.wires.length < n →
        exec (.retireWire tag id n) s = .next (replied s tag 5 6 (plain .noSuch)))) ∧
    let a := p.staged.getD p.active
    (∀ n, 1 ≤ n → n ≤ a.wires.length + 1 → n ≤ 600 →
      let c := { a with wires := if n ≤ a.wires.length then updateNth a.wires n fun _ => w else a.wires ++ [w] }
      (wireOk w = false ∨ c.inBounds = false →
        exec (.putWire tag id n w) s = .next (replied s tag 3 6 (plain .badField))) ∧
      (wireOk w = true → c.inBounds = true → s.cls w.cls = none →
        exec (.putWire tag id n w) s = .next (replied s tag 3 6 (plain .noSuch))) ∧
      (wireOk w = true → c.inBounds = true → s.cls w.cls ≠ none →
        (Fits s p c → ∃ t, exec (.putWire tag id n w) s = .next t ∧ Landed s t 3 tag p c) ∧
        (¬ Fits s p c → exec (.putWire tag id n w) s = .next (replied s tag 3 6 (plain .full))))) ∧
    (∀ n, a.wires.length + 1 < n ∨ 600 < n →
      exec (.putWire tag id n w) s = .next (replied s tag 3 6 (plain .badField))) ∧
    (∀ n k set v field x, nth a.wires n = some v → (field, x) ∈
        [(WireField.cls k, { v with cls := k }),
         (.firstX k, { v with first := { v.first with x := k } }),
         (.firstY k, { v with first := { v.first with y := k } }),
         (.firstZ k, { v with first := { v.first with z := k } }),
         (.secondX k, { v with second := { v.second with x := k } }),
         (.secondY k, { v with second := { v.second with y := k } }),
         (.secondZ k, { v with second := { v.second with z := k } }), (.loop k, { v with loop := k }),
         (.firstPower k, { v with firstBond := { v.firstBond with power := k } }),
         (.firstForce k, { v with firstBond := { v.firstBond with force := k } }),
         (.firstTime k, { v with firstBond := { v.firstBond with time := k } }),
         (.secondPower k, { v with secondBond := { v.secondBond with power := k } }),
         (.secondForce k, { v with secondBond := { v.secondBond with force := k } }),
         (.secondTime k, { v with secondBond := { v.secondBond with time := k } }), (.tail k, { v with tail := k }),
         (.bumpAdd (some set), { v with bump := some set }), (.bumpRemove, { v with bump := none })] →
      let c := { a with wires := updateNth a.wires n fun _ => x }
      (wireOk x = false ∨ c.inBounds = false →
        exec (.amendWire tag id n [field]) s = .next (replied s tag 4 6 (plain .badField))) ∧
      (wireOk x = true → c.inBounds = true →
        (field = .cls k → s.cls k = none →
          exec (.amendWire tag id n [field]) s = .next (replied s tag 4 6 (plain .noSuch))) ∧
        ((field = .cls k → s.cls k ≠ none) →
          (Fits s p c → ∃ t, exec (.amendWire tag id n [field]) s = .next t ∧ Landed s t 4 tag p c) ∧
          (¬ Fits s p c → exec (.amendWire tag id n [field]) s = .next (replied s tag 4 6 (plain .full)))))) ∧
    (∀ n v, nth a.wires n = some v →
      exec (.amendWire tag id n [.bumpAdd none]) s = .next (replied s tag 4 6 (plain .badField)) ∧
      exec (.amendWire tag id n [.index]) s = .next (replied s tag 4 6 (plain .locked))) ∧
    (∀ n, n = 0 ∨ a.wires.length < n →
      exec (.amendWire tag id n [.tail 0]) s = .next (replied s tag 4 6 (plain .noSuch)) ∧
      exec (.retireWire tag id n) s = .next (replied s tag 5 6 (plain .noSuch))) ∧
    (∀ n, 1 ≤ n → n < a.wires.length →
      exec (.retireWire tag id n) s = .next (replied s tag 5 6 (plain .locked))) ∧
    (1 ≤ a.wires.length →
      let c := { a with wires := a.wires.dropLast }
      (Fits s p c → ∃ t, exec (.retireWire tag id a.wires.length) s = .next t ∧ Landed s t 5 tag p c) ∧
      (¬ Fits s p c → exec (.retireWire tag id a.wires.length) s = .next (replied s tag 5 6 (plain .full))))

/-- An AMEND of a program in use with no staged copy goes to a new staged copy, a full copy of the active one: the
active copy and the generation stay. Of a program neither in use nor staging it reaches the active copy, and the
generation advances; of a program that is staging it reaches the staged copy. So for every field that an AMEND may name:
the name, the pitches, the soak time, the plan, the filters, and the columns and rows, which are LOCKED while the
program is in use or staging; a value that leaves a copy out of range or out of bounds is BAD_FIELD first (R45, R46,
R48, R49, R50, R54). -/
def Obligations.ProgramAmendLandsByUse : Prop :=
  ∀ (s : State) (tag id n : Nat) (p : Program), s.link.request = none → s.program id = some p → TablesOk s →
    (p.staged = none → copyOk p.active = true → p.active.inBounds = true → n ≤ 120 →
      (s.inUse id = true → recordsUsed s.programs + p.active.wires.length ≤ 4096 →
        ∃ t, exec (.amendProgram tag id [.soak n]) s = .next t ∧
          t.program id = some { p with staged := some { p.active with soak := n } } ∧
          t = { replied s tag 4 5 (plain .ok) with programs := t.programs }) ∧
      (s.inUse id = false →
        ∃ t, exec (.amendProgram tag id [.soak n]) s = .next t ∧
          t.program id = some { p with active := { p.active with soak := n }
                                       generation := if p.generation < 65535 then p.generation + 1 else 0 } ∧
          t = { replied s tag 4 5 (plain .ok) with programs := t.programs })) ∧
    ∀ (codes : List Nat) (v : Filter) (field : ProgramField) (c : ProgramCopy),
      let a := p.staged.getD p.active
      let grid := [(ProgramField.columns n, { a with columns := n }), (.rows n, { a with rows := n })]
      let others := [(ProgramField.name codes, { a with name := codes }), (.pitchX n, { a with pitchX := n }),
        (.pitchY n, { a with pitchY := n }), (.soak n, { a with soak := n }),
        (.period n, { a with plan := { a.plan with period := n } }),
        (.offset n, { a with plan := { a.plan with offset := n } }),
        (.run n, { a with plan := { a.plan with run := n } }), (.filter1 v, { a with filter1 := v }),
        (.filter2 v, { a with filter2 := v }), (.filter3 v, { a with filter3 := v }),
        (.filter4 v, { a with filter4 := v })]
      ((field, c) ∈ grid ++ others → copyOk c = false ∨ c.inBounds = false →
        exec (.amendProgram tag id [field]) s = .next (replied s tag 4 5 (plain .badField))) ∧
      ((field, c) ∈ grid → copyOk c = true → c.inBounds = true → s.inUse id = true ∨ p.staged ≠ none →
        exec (.amendProgram tag id [field]) s = .next (replied s tag 4 5 (plain .locked))) ∧
      ((field, c) ∈ grid ++ others → copyOk c = true → c.inBounds = true → s.inUse id = false → p.staged = none →
        ∃ t, exec (.amendProgram tag id [field]) s = .next t ∧
          t.program id = some { p with active := c
                                       generation := if p.generation < 65535 then p.generation + 1 else 0 } ∧
          (∀ k, k ≠ id → t.program k = s.program k) ∧
          t = { replied s tag 4 5 (plain .ok) with programs := t.programs }) ∧
      ((field, c) ∈ others → copyOk c = true → c.inBounds = true →
        (s.inUse id = true ∧ recordsUsed s.programs + p.active.wires.length ≤ 4096) ∨ p.staged ≠ none →
        ∃ t, exec (.amendProgram tag id [field]) s = .next t ∧
          t.program id = some { p with staged := some c } ∧ (∀ k, k ≠ id → t.program k = s.program k) ∧
          t = { replied s tag 4 5 (plain .ok) with programs := t.programs })

/-- PUT and AMEND of a loop shape entry 1 to 24 write it when its fields lie in range, the kink is no greater than the
height and the profile is one of the three, else BAD_FIELD; an entry outside is NO_SUCH, whatever its fields (that this
comes first is the model's choice, log 15). Nothing else changes, no generation among it (R59). -/
def Obligations.LoopShapeWrites : Prop :=
  ∀ (s : State) (tag n height reverse kink code : Nat) (l : LoopShape), s.link.request = none →
    (nth s.loops n = none →
      exec (.putLoop tag n { height, reverse, kink, profile := code }) s = .next (replied s tag 3 7 (plain .noSuch)) ∧
      exec (.amendLoop tag n [.height height]) s = .next (replied s tag 4 7 (plain .noSuch))) ∧
    (nth s.loops n = some l →
      (∀ profile, (code, profile) ∈ [(1, Profile.low), (2, .standard), (3, .square)] →
        exec (.putLoop tag n { height, reverse, kink, profile := code }) s = .next
          (if 50 ≤ height ∧ height ≤ 1000 ∧ reverse ≤ 300 ∧ kink ≤ 500 ∧ kink ≤ height then
            replied { s with loops := updateNth s.loops n fun _ => { height, reverse, kink, profile } }
              tag 3 7 (plain .ok)
           else replied s tag 3 7 (plain .badField)) ∧
        (loopOk l = true → exec (.amendLoop tag n [.profile code]) s = .next
          (replied { s with loops := updateNth s.loops n fun _ => { l with profile } } tag 4 7 (plain .ok)))) ∧
      (code = 0 ∨ 3 < code →
        exec (.putLoop tag n { height, reverse, kink, profile := code }) s = .next
          (replied s tag 3 7 (plain .badField)) ∧
        exec (.amendLoop tag n [.profile code]) s = .next (replied s tag 4 7 (plain .badField))) ∧
      ∀ field m, (field, m) ∈ [(LoopField.height height, { l with height }), (.reverse reverse, { l with reverse }),
          (.kink kink, { l with kink })] →
        exec (.amendLoop tag n [field]) s = .next
          (if loopOk m = true then
            replied { s with loops := updateNth s.loops n fun _ => m } tag 4 7 (plain .ok)
           else replied s tag 4 7 (plain .badField)))

/-! ## Classes, results and sampling -/

/-- PUT creates a class in PROVING with no EWMA, its budget the proving units, its counts 0 and its CLASS flag set, and
refuses in the order NO_SUCH, EXISTS, BAD_FIELD; its whole record is told for an id that no program uses yet. AMEND of
each of the fourteen settings writes it, or is BAD_FIELD when the class would be out of range or inconsistent, and
leaves the state, the qualification part and the budget, but that proving units below the budget lower it to them;
naming the qualification part is LOCKED. RETIRE takes out a class no program uses and no unreported wire of a ticket
names, else IN_USE. Of a class not in the table AMEND and RETIRE are NO_SUCH (R117, R119, R120, R121, R132). That an
AMEND of such a class is NO_SUCH before BAD_FIELD is the model's choice (log 15). -/
def Obligations.ClassTableWrites : Prop :=
  ∀ (s : State) (tag id : Nat) (b : ClassBody), s.link.request = none →
    (id = 0 ∨ 32 < id → exec (.putClass tag id b) s = .next (replied s tag 3 8 (plain .noSuch))) ∧
    (1 ≤ id → id ≤ 32 → s.cls id ≠ none →
      exec (.putClass tag id b) s = .next (replied s tag 3 8 (plain .exists_))) ∧
    (1 ≤ id → id ≤ 32 → s.cls id = none → (∀ c, settingsOf b = some c → classOk c = false) →
      exec (.putClass tag id b) s = .next (replied s tag 3 8 (plain .badField))) ∧
    (∀ c, 1 ≤ id → id ≤ 32 → s.cls id = none → settingsOf b = some c → classOk c = true →
      ∃ t d, exec (.putClass tag id b) s = .next t ∧ Holds t tag 3 8 (plain .ok) ∧ t.cls id = some d ∧
        d.settings = c ∧ d.state = .proving ∧ d.ewma = none ∧ d.least = none ∧ d.greatest = none ∧ d.lifetime = 0 ∧
        t.link.flags &&& 0x010 = 0x010 ∧
        (s.classUsed id = false → d =
          { id, settings := c, state := .proving, ewma := none, budget := c.provingUnits, resultsSince := 0, lows := 0
            goods := 0, least := none, greatest := none
            stats := { bands := [0, 0, 0, 0, 0, 0, 0, 0], ballLift := 0, neck := 0, span := 0, heel := 0
                       stitchLift := 0, belowMin := 0, results := 0 }
            lifetime := 0 })) ∧
    (∀ c n field x, s.cls id = some c → (field, x) ∈
        [(ClassField.pMin n, { c.settings with pMin := n }), (.pMax n, { c.settings with pMax := n }),
         (.fMin n, { c.settings with fMin := n }), (.fMax n, { c.settings with fMax := n }),
         (.trimStep n, { c.settings with trimStep := n }), (.pullMin n, { c.settings with pullMin := n }),
         (.watchLevel n, { c.settings with watchLevel := n }), (.shift n, { c.settings with shift := n }),
         (.bandWidth n, { c.settings with bandWidth := n }),
         (.resultsRequired n, { c.settings with resultsRequired := n }),
         (.recovery n, { c.settings with recovery := n }),
         (.missPolicy 1, { c.settings with missPolicy := .stop }),
         (.missPolicy 2, { c.settings with missPolicy := .continue_ })] →
      exec (.amendClass tag id [field]) s = .next
        (if classOk x = true then replied (s.onClass id fun d => { d with settings := x }) tag 4 8 (plain .ok)
         else replied s tag 4 8 (plain .badField))) ∧
    (∀ n, s.cls id ≠ none → n = 0 ∨ 2 < n →
      exec (.amendClass tag id [.missPolicy n]) s = .next (replied s tag 4 8 (plain .badField))) ∧
    (∀ c n, s.cls id = some c →
      exec (.amendClass tag id [.provingUnits n]) s = .next
        (if classOk { c.settings with provingUnits := n } = true then
          replied (s.onClass id fun d => { d with
            settings := { c.settings with provingUnits := n }
            budget := if n < d.budget then n else d.budget }) tag 4 8 (plain .ok)
         else replied s tag 4 8 (plain .badField))) ∧
    (∀ c trim, s.cls id = some c → classOk { c.settings with trim } = true →
      exec (.amendClass tag id [.trim trim]) s = .next
        (replied (s.onClass id fun d => { d with settings := { c.settings with trim } }) tag 4 8 (plain .ok))) ∧
    (∀ c trim, s.cls id = some c → classOk { c.settings with trim } = false →
      exec (.amendClass tag id [.trim trim]) s = .next (replied s tag 4 8 (plain .badField))) ∧
    (∀ trim, s.cls id = none →
      exec (.amendClass tag id [.trim trim]) s = .next (replied s tag 4 8 (plain .noSuch)) ∧
      exec (.retireClass tag id) s = .next (replied s tag 5 8 (plain .noSuch))) ∧
    (s.cls id ≠ none →
      exec (.amendClass tag id [.qualification]) s = .next (replied s tag 4 8 (plain .locked))) ∧
    (s.cls id ≠ none → s.classUsed id = true ∨ (∃ k ∈ s.quality.tickets, k.awaits id = true) →
      exec (.retireClass tag id) s = .next (replied s tag 5 8 (plain .inUse))) ∧
    (s.cls id ≠ none → s.classUsed id = false → (∀ k ∈ s.quality.tickets, k.awaits id = false) →
      ∃ t, exec (.retireClass tag id) s = .next t ∧ Holds t tag 5 8 (plain .ok) ∧ t.cls id = none ∧
        t.quality.classes = removeBy WireClass.id id s.quality.classes ∧ t.link.flags &&& 0x010 = 0x010)

/-- REQUALIFY takes a class in any state to PROVING with no EWMA, no extremes and its running counts at 0; settings,
statistics and the lifetime count stay, and the CLASS flag is set. The budget is the proving units when no head is
admitted by the step, and is never more: each head that the re-examination lets in takes one of it. A class not in the
table is NO_SUCH (R66, R130, R132). -/
def Obligations.RequalifyStartsAgain : Prop :=
  ∀ (s : State) (tag id : Nat), s.link.request = none →
    (s.cls id = none → exec (.requalify tag id) s = .next (replied s tag 7 15 (plain .noSuch))) ∧
    ∀ c, s.cls id = some c → ∃ t d, exec (.requalify tag id) s = .next t ∧ Holds t tag 7 15 (plain .ok) ∧
      t.cls id = some d ∧ d.state = .proving ∧ d.ewma = none ∧ d.least = none ∧ d.greatest = none ∧
      d.resultsSince = 0 ∧ d.lows = 0 ∧ d.goods = 0 ∧ d.settings = c.settings ∧ d.stats = c.stats ∧
      d.lifetime = c.lifetime ∧ d.budget ≤ c.settings.provingUnits ∧ t.link.flags &&& 0x010 = 0x010 ∧
      ((∀ h, (t.head h).claim = (s.head h).claim) → d.budget = c.settings.provingUnits)

/-- The state a class goes to on an accepted result of force x, in each state it may hold, by the first case that
applies; e, lows, goods and n are the values as the result's updates leave them. Entering WATCH from PROVING or
QUALIFIED sets consecutive good to 0. A LAPSED class takes the statistics alone and keeps its reason and its running
values. In every state the result counts in its band, its mode, the results and the lifetime count, below the minimum
where it is low, and in the extremes; outside LAPSED the EWMA and the results since PROVING follow, consecutive lows
rise by a low result and are 0 after another, and consecutive good is 0 after a low result, rises in WATCH by another
and stays in PROVING and QUALIFIED. An overdue notice changes the state alone, and consecutive good on entering WATCH
(R122, R123, R124, R125, R126, R127, R128, R129). -/
def Obligations.ClassExaminesResult : Prop :=
  ∀ (c : WireClass) (x : Nat) (m : PullMode),
    let e := ewmaStep c.ewma c.settings.shift x
    let n := count16 c.resultsSince
    let low := x < c.settings.pullMin
    (c.state = .proving →
      (low → (c.takeResult x m).state = .lapsed .lowResult) ∧
      (¬low → c.settings.resultsRequired ≤ n → 16 * c.settings.watchLevel ≤ e →
        (c.takeResult x m).state = .qualified) ∧
      (¬low → c.settings.resultsRequired ≤ n → e < 16 * c.settings.watchLevel →
        (c.takeResult x m).state = .watch ∧ (c.takeResult x m).goods = 0) ∧
      (¬low → n < c.settings.resultsRequired → (c.takeResult x m).state = .proving) ∧
      (c.takeResult x m).budget = c.budget) ∧
    (c.state = .qualified →
      (low ∨ e < 16 * c.settings.watchLevel →
        (c.takeResult x m).state = .watch ∧ (c.takeResult x m).goods = 0) ∧
      (¬low → 16 * c.settings.watchLevel ≤ e → (c.takeResult x m).state = .qualified)) ∧
    (c.state = .watch →
      (low → 1 ≤ c.lows → (c.takeResult x m).state = .lapsed .repeatLow) ∧
      ((low → c.lows = 0) → e < 16 * c.settings.pullMin → (c.takeResult x m).state = .lapsed .lowAverage) ∧
      (low → c.lows = 0 → 16 * c.settings.pullMin ≤ e → 1 ≤ c.settings.recovery →
        (c.takeResult x m).state = .watch) ∧
      (¬low → 16 * c.settings.pullMin ≤ e → c.settings.recovery ≤ count8 c.goods → 16 * c.settings.watchLevel ≤ e →
        (c.takeResult x m).state = .qualified) ∧
      (¬low → 16 * c.settings.pullMin ≤ e → count8 c.goods < c.settings.recovery ∨ e < 16 * c.settings.watchLevel →
        (c.takeResult x m).state = .watch)) ∧
    (∀ r, c.state = .lapsed r → (c.takeResult x m).state = .lapsed r ∧ (c.takeResult x m).ewma = c.ewma ∧
      (c.takeResult x m).stats = c.stats.after c.settings x m ∧ (c.takeResult x m).resultsSince = c.resultsSince ∧
      (c.takeResult x m).lows = c.lows ∧ (c.takeResult x m).goods = c.goods) ∧
    (let d := c.takeResult x m
     let band := if low then 0 else min 7 (1 + (x - c.settings.pullMin) / c.settings.bandWidth)
     d.id = c.id ∧ d.settings = c.settings ∧ d.budget = c.budget ∧
       (∀ b k, c.stats.bands[b]? = some k → d.stats.bands[b]? = some (if b = band then count16 k else k)) ∧
       d.stats.bands.length = c.stats.bands.length ∧
       d.stats.ballLift = (if m = .ballLift then count16 c.stats.ballLift else c.stats.ballLift) ∧
       d.stats.neck = (if m = .neck then count16 c.stats.neck else c.stats.neck) ∧
       d.stats.span = (if m = .span then count16 c.stats.span else c.stats.span) ∧
       d.stats.heel = (if m = .heel then count16 c.stats.heel else c.stats.heel) ∧
       d.stats.stitchLift = (if m = .stitchLift then count16 c.stats.stitchLift else c.stats.stitchLift) ∧
       d.stats.belowMin = (if low then count16 c.stats.belowMin else c.stats.belowMin) ∧
       d.stats.results = count16 c.stats.results ∧
       d.lifetime = (if c.lifetime < 4294967295 then c.lifetime + 1 else 0) ∧
       d.least = some (match c.least with | some l => if x < l then x else l | none => x) ∧
       d.greatest = some (match c.greatest with | some g => if g < x then x else g | none => x) ∧
       ((∀ r, c.state ≠ .lapsed r) → d.ewma = some e ∧ d.resultsSince = n ∧
         d.lows = (if low then count8 c.lows else 0) ∧
         d.goods = (if low then 0 else if c.state = .watch then count8 c.goods
                    else if d.state = .watch then 0 else c.goods))) ∧
    c.takeNotice =
      match c.state with
      | .proving | .watch => { c with state := .lapsed .overdue }
      | .qualified => { c with state := .watch, goods := 0 }
      | .lapsed _ => c

/-- The EWMA after a result x is 16x when it was absent; else E + floor((16x − E + 2^(k−1)) / 2^k) for a smoothing shift
k of 1 to 6, which moves E toward 16x and never past it, so that with x at most 2,000 it stays in 0 to 32,000
(R123). -/
def Obligations.EwmaMovesTowardResult : Prop :=
  ∀ k x e : Nat, 1 ≤ k → k ≤ 6 →
    ewmaStep none k x = 16 * x ∧
    (ewmaStep (some e) k x : Int) = e + ((16 * (x : Int) - e + 2 ^ (k - 1)) / 2 ^ k) ∧
    (e ≤ 16 * x → e ≤ ewmaStep (some e) k x ∧ ewmaStep (some e) k x ≤ 16 * x) ∧
    (16 * x < e → 16 * x ≤ ewmaStep (some e) k x ∧ ewmaStep (some e) k x ≤ e) ∧
    (x ≤ 2000 → e ≤ 32000 → ewmaStep (some e) k x ≤ 32000)

/-- SUBMIT_RESULT is judged by the first case that applies: a mode outside the five BAD_FIELD, a ticket not in the list
LATE, a wire not on it NO_SUCH, a wire reported DUPLICATE, each counted and nothing else changed; otherwise it is OK,
the over-scale mark tells a force above 2,000, the wire is reported and its class takes the clamped force; the last wire
reported takes the ticket out of the list with the TICKET flag, its BONDED unit's pull part DONE (R146, R147). -/
def Obligations.SubmitResultJudged : Prop :=
  ∀ (s : State) (tag n wire force code : Nat), s.link.request = none →
    (pullModeOfCode code = none → exec (.submitResult tag n wire force code) s = .next
      (replied { s with quality := { s.quality with
        counts := { s.quality.counts with badFields := count16 s.quality.counts.badFields } } } tag 7 17
        (plain .badField))) ∧
    ∀ m, pullModeOfCode code = some m →
      (s.ticket n = none → exec (.submitResult tag n wire force code) s = .next
        (replied { s with quality := { s.quality with
          counts := { s.quality.counts with late := count16 s.quality.counts.late } } } tag 7 17 (plain .late))) ∧
      ∀ k, s.ticket n = some k →
        ((∀ w ∈ k.wires, w.wire ≠ wire) → exec (.submitResult tag n wire force code) s = .next
          (replied { s with quality := { s.quality with
            counts := { s.quality.counts with noSuchWire := count16 s.quality.counts.noSuchWire } } } tag 7 17
            (plain .noSuch))) ∧
        ∀ w, (k.wires.find? fun w => w.wire == wire) = some w →
          (w.reported = true → exec (.submitResult tag n wire force code) s = .next
            (replied { s with quality := { s.quality with
              counts := { s.quality.counts with duplicates := count16 s.quality.counts.duplicates } } } tag 7 17
              (plain .duplicate))) ∧
          ∀ c, w.reported = false → s.cls w.cls = some c →
            ∃ t d, exec (.submitResult tag n wire force code) s = .next t ∧
              Holds t tag 7 17 { status := .ok, body := .none, more := false, overScale := decide (2000 < force) } ∧
              t.cls w.cls = some d ∧ d.state = (c.takeResult (min force 2000) m).state ∧
              d.ewma = (c.takeResult (min force 2000) m).ewma ∧
              d.stats = (c.takeResult (min force 2000) m).stats ∧
              d.lifetime = (if c.lifetime < 4294967295 then c.lifetime + 1 else 0) ∧
              ((∃ e ∈ k.wires, e.wire ≠ wire ∧ e.reported = false) →
                t.ticket n = some { k with
                  wires := k.wires.map fun e => if e.wire = wire then { e with reported := true } else e }) ∧
              ((∀ e ∈ k.wires, e.wire ≠ wire → e.reported = true) →
                t.ticket n = none ∧ t.link.flags &&& 0x020 = 0x020 ∧
                ∀ u, s.unit k.strip k.column k.row = some u → u.state = .bonded →
                  u.pull = some (.ticketed .pending n) →
                  t.unit k.strip k.column k.row = some { u with pull := some (.ticketed .done n) })

/-- On the gauge port with no frame in progress: a whole frame of eleven bytes whose sum is not 0 mod 256 is answered
BAD_FRAME and counted; one with the right sum that names no pending ticket is answered LATE and counted; a shorter start
of a frame is held with its 50 ms limit running, and the limit's expiry ends it with BAD_FRAME, counted. Bytes before
55h are discarded. A mode outside the five is answered BAD_FIELD, a wire that is not on the ticket NO_SUCH_WIRE, one
reported already DUPLICATE, each counted, by the first case that applies. Nothing else changes. A frame that names an
unreported wire of a pending ticket is accepted: the verdict is 00h, or 80h and a count when the force is above 2,000,
the wire is reported, its class takes the clamped force, and the last wire reported takes the ticket out of the list,
its BONDED unit's pull part DONE (R145, R146, R147, R187). -/
def Obligations.GaugeFramesAnswered : Prop :=
  ∀ (s : State) (bs : List Byte),
    (s.gauge = { bytes := [], limit := none } → bs.length = 10 → sumsToZero (0x55 :: bs) = false →
      exec (.resultFrame (0x55 :: bs)) s = .next
        { quiet s with
          quality := { s.quality with
            counts := { s.quality.counts with badFrames := count16 s.quality.counts.badFrames } }
          out := { Outputs.empty with verdicts := [5] } }) ∧
    (s.gauge = { bytes := [], limit := none } → bs.length = 10 → sumsToZero (0x55 :: bs) = true →
      (pullModeOfCode (numberOf ((bs.drop 8).take 1))).isSome → s.ticket (numberOf (bs.take 4)) = none →
      exec (.resultFrame (0x55 :: bs)) s = .next
        { quiet s with
          quality := { s.quality with counts := { s.quality.counts with late := count16 s.quality.counts.late } }
          out := { Outputs.empty with verdicts := [1] } }) ∧
    (s.gauge = { bytes := [], limit := none } →
      exec (.resultFrame []) s = .next (quiet s) ∧
      ∀ b, b ≠ 0x55 → exec (.resultFrame (b :: bs)) s = exec (.resultFrame bs) s) ∧
    (s.gauge = { bytes := [], limit := none } → bs.length = 10 → sumsToZero (0x55 :: bs) = true →
      let judged := fun (verdict : Byte) (counts : ResultCounts) => exec (.resultFrame (0x55 :: bs)) s = .next
        { quiet s with
          quality := { s.quality with counts }, out := { Outputs.empty with verdicts := [verdict] } }
      let mode := pullModeOfCode (numberOf ((bs.drop 8).take 1))
      (mode = none →
        judged 4 { s.quality.counts with badFields := count16 s.quality.counts.badFields }) ∧
      ∀ k, mode ≠ none → s.ticket (numberOf (bs.take 4)) = some k →
        ((∀ w ∈ k.wires, w.wire ≠ numberOf ((bs.drop 4).take 2)) →
          judged 2 { s.quality.counts with noSuchWire := count16 s.quality.counts.noSuchWire }) ∧
        ∀ w, (k.wires.find? fun w => w.wire == numberOf ((bs.drop 4).take 2)) = some w → w.reported = true →
          judged 3 { s.quality.counts with duplicates := count16 s.quality.counts.duplicates }) ∧
    (let n := numberOf (bs.take 4)
     let wire := numberOf ((bs.drop 4).take 2)
     let force := numberOf ((bs.drop 6).take 2)
     ∀ m k w c, s.gauge = { bytes := [], limit := none } → bs.length = 10 → sumsToZero (0x55 :: bs) = true →
      pullModeOfCode (numberOf ((bs.drop 8).take 1)) = some m → s.ticket n = some k →
      (k.wires.find? fun w => w.wire == wire) = some w → w.reported = false → s.cls w.cls = some c →
      ∃ t d, exec (.resultFrame (0x55 :: bs)) s = .next t ∧ t.gauge = { bytes := [], limit := none } ∧
        t.out.verdicts = [if 2000 < force then 0x80 else 0x00] ∧
        t.quality.counts = { s.quality.counts with
          overScale := if 2000 < force then count16 s.quality.counts.overScale else s.quality.counts.overScale } ∧
        t.cls w.cls = some d ∧ d.state = (c.takeResult (min force 2000) m).state ∧
        d.ewma = (c.takeResult (min force 2000) m).ewma ∧ d.stats = (c.takeResult (min force 2000) m).stats ∧
        ((∃ e ∈ k.wires, e.wire ≠ wire ∧ e.reported = false) →
          t.ticket n = some { k with
            wires := k.wires.map fun e => if e.wire = wire then { e with reported := true } else e }) ∧
        ((∀ e ∈ k.wires, e.wire ≠ wire → e.reported = true) →
          t.ticket n = none ∧ t.link.flags &&& 0x020 = 0x020 ∧
          ∀ u, s.unit k.strip k.column k.row = some u → u.state = .bonded → u.pull = some (.ticketed .pending n) →
            t.unit k.strip k.column k.row = some { u with pull := some (.ticketed .done n) })) ∧
    (s.gauge = { bytes := [], limit := none } → bs.length < 10 →
      exec (.resultFrame (0x55 :: bs)) s = .next
        { quiet s with gauge := { bytes := 0x55 :: bs, limit := some 50 } }) ∧
    (s.gauge.bytes ≠ [] →
      exec .gaugeFrameLimit s = .next
        { quiet s with
          gauge := { bytes := [], limit := none }
          quality := { s.quality with
            counts := { s.quality.counts with badFrames := count16 s.quality.counts.badFrames } }
          out := { Outputs.empty with verdicts := [5] } })

/-- WITHDRAW takes a pending ticket out of the list and marks its unit's pull part WITHDRAWN; no class changes. A ticket
not in the list is NO_SUCH. SAMPLE_NEXT arms the program's one-shot and changes nothing else; a program not in the table
is NO_SUCH. The sampling decision on the unit that SPARK_OK bonds: PROVING when the claim has proving classes, else
ONE_SHOT when armed, which disarms it, else PLAN when the plan test passes, else none; a selection that is empty is
counted, a full list makes the pull part MISSED and is counted, and otherwise a ticket of the next number is issued, the
pull part is PENDING and the TICKET flag set; in each case the sequence counter rises, wrapping
(R136, R138, R141, R143, R149). -/
def Obligations.WithdrawAndSampleNext : Prop :=
  ∀ (s : State) (tag n : Nat), s.link.request = none →
    (s.ticket n = none → exec (.withdraw tag n) s = .next (replied s tag 7 18 (plain .noSuch))) ∧
    (∀ k u, s.ticket n = some k → s.unit k.strip k.column k.row = some u →
      u.pull = some (.ticketed .pending n) →
      ∃ t, exec (.withdraw tag n) s = .next t ∧ Holds t tag 7 18 (plain .ok) ∧ t.ticket n = none ∧
        t.unit k.strip k.column k.row = some { u with pull := some (.ticketed .withdrawn n) } ∧
        t.quality.classes = s.quality.classes) ∧
    (s.program n = none → exec (.sampleNext tag n) s = .next (replied s tag 7 16 (plain .noSuch))) ∧
    (s.program n ≠ none → exec (.sampleNext tag n) s = .next
      (replied (s.onSampling n fun q => { q with armed := true }) tag 7 16 (plain .ok))) ∧
    ∀ (h : HeadId) (c : Claim) (r : Strip) (p : Program) (q : Sampling) (u : UnitEntry),
      (s.head h).state = .bonding ∨ (s.head h).state = .holding → (s.head h).claim = some c →
      (s.head h).step = some .endSpark → c.wireCount ≤ c.wire → s.strip c.strip = some r →
      s.program r.program = some p → p.active.wires ≠ [] → s.sampling r.program = some q →
      s.unit c.strip c.column c.row = some u → u.state = .claimed h → u.wiresDone < 600 → u.pull = none →
      let proving := (s.admission h).getD []
      let watch := p.active.wires.any fun w => (s.cls w.cls).any fun k => k.state == .watch
      let after := if q.sequence < 4294967295 then q.sequence + 1 else 0
      (proving = [] → q.armed = false → planTest p.active.plan watch q.sequence = false →
        ∃ t v, exec (.sparkOk h) s = .next t ∧ t.quality.tickets = s.quality.tickets ∧
          t.sampling r.program = some { q with sequence := after } ∧ t.unit c.strip c.column c.row = some v ∧
          v.state = .bonded ∧ v.pull = none) ∧
      ∀ kind, (kind = .proving ∧ proving ≠ []) ∨ (kind = .oneShot ∧ proving = [] ∧ q.armed = true) ∨
          (kind = .plan ∧ proving = [] ∧ q.armed = false ∧ planTest p.active.plan watch q.sequence = true) →
        let wires := selection p.active kind proving
        ∃ t v, exec (.sparkOk h) s = .next t ∧ t.unit c.strip c.column c.row = some v ∧ v.state = .bonded ∧
          v.wiresDone = u.wiresDone + 1 ∧
          (wires = [] → t.quality.tickets = s.quality.tickets ∧ v.pull = none ∧
            t.sampling r.program = some { q with
              armed := if kind = .oneShot then false else q.armed
              sequence := after, emptySelections := count16 q.emptySelections }) ∧
          (wires ≠ [] → 32 ≤ s.quality.tickets.length → t.quality.tickets = s.quality.tickets ∧
            v.pull = some .missed ∧
            t.sampling r.program = some { q with
              armed := if kind = .oneShot then false else q.armed
              sequence := after, missedSamples := count16 q.missedSamples }) ∧
          (wires ≠ [] → s.quality.tickets.length < 32 → s.quality.nextTicket < 4294967295 →
            t.quality.tickets = s.quality.tickets ++
              [{ number := s.quality.nextTicket, strip := c.strip, column := c.column, row := c.row
                 program := r.program, generation := r.generation.getD 0, kind, wires
                 serial := (s.head h).capillary.serial, count := (s.head h).capillary.count, head := h
                 remaining := s.cell.dueCount }] ∧
            t.quality.nextTicket = s.quality.nextTicket + 1 ∧ t.link.flags &&& 0x020 = 0x020 ∧
            v.pull = some (.ticketed .pending s.quality.nextTicket) ∧
            t.sampling r.program = some { q with
              armed := if kind = .oneShot then false else q.armed, sequence := after })

/-- The plan test passes when r is less than the smaller of K and P', r being the number from 0 to P' − 1 such that s −
D − r is a whole multiple of P'; P' is P, or the greater of 1 and floor(P / 2) while a class used is WATCH. A wire index
agrees with a filter when they hold the same bit in every place of the mask, and is selected when it agrees with an
enabled filter, or none is enabled. The wires chosen are unreported, in ascending index, at most 64: for PROVING those
of the proving classes, else those the filters select, all of them when they are 64 or fewer and else the first 64 of
them in ascending index (R137, R139, R140). -/
def Obligations.PlanTestByRemainder : Prop :=
  ∀ (p : Plan) (watch : Bool) (sequence : Nat), 1 ≤ p.period →
    let period := if watch then max 1 (p.period / 2) else p.period
    (planTest p watch sequence = true ↔
      ∃ r : Nat, r < period ∧ (period : Int) ∣ (sequence : Int) - p.offset - r ∧ r < min p.run period) ∧
    (∀ (f : Filter) (index : Nat), filterAgrees f index = true ↔
      ∀ bit, f.mask.testBit bit = true → index.testBit bit = f.value.testBit bit) ∧
    ∀ (c : ProgramCopy) (kind : SampleKind) (proving : List Nat),
      let chosen := fun n w => nth c.wires n = some w ∧
        match kind with
        | .proving => w.cls ∈ proving
        | _ => ∃ f ∈ [c.filter1, c.filter2, c.filter3, c.filter4], f.enabled = true ∧ filterAgrees f n = true ∨
            ∀ g ∈ [c.filter1, c.filter2, c.filter3, c.filter4], g.enabled = false
      Rising ((selection c kind proving).map TicketWire.wire) ∧ (selection c kind proving).length ≤ 64 ∧
      (∀ e ∈ selection c kind proving, ∃ w, chosen e.wire w ∧ e.cls = w.cls ∧ e.reported = false) ∧
      ((selection c kind proving).length < 64 →
        ∀ n w, chosen n w → ∃ e ∈ selection c kind proving, e.wire = n) ∧
      ∀ n w, chosen n w → (∀ e ∈ selection c kind proving, e.wire ≠ n) →
        (selection c kind proving).length = 64 ∧ ∀ e ∈ selection c kind proving, e.wire < n

/-! ## The heads -/

/-- HEAD_ENABLE takes an OFF head to IDLE and its request is decided: with the window CLOSED it stalls for NO_UNIT, with
the window INDEXING for INDEX; with the window open, for NO_UNIT when no candidate stands, HEATER when the gate fails,
CLASS when a class the program uses does not pass, and otherwise the first candidate in unit order is granted, each
PROVING class the program uses giving one of its budget. In any other state it is LOCKED. HEAD_DISABLE takes a head that
is IDLE, or STALLED or HELD with no claim, to OFF, and is IN_USE otherwise. A head number outside 1 and 2 is BAD_FIELD.
A reading that lets the gate pass for two stalled heads decides them in one contest: the first at next contest is served
first, the other against its claim, and is first next time (log 5). A grant that the Store refuses, or that its head no
longer asks for, has its admission undone; in a step of the model neither comes about (log 1) (R9, R64, R65, R66, R68,
R69, R70, R71, R73). -/
def Obligations.HeadEnableDisable : Prop :=
  ∀ (s : State) (tag n : Nat), s.link.request = none →
    (headOfNumber n = none →
      exec (.headEnable tag n) s = .next (replied s tag 7 8 (plain .badField)) ∧
      exec (.headDisable tag n) s = .next (replied s tag 7 9 (plain .badField))) ∧
    ∀ h, headOfNumber n = some h →
      ((s.head h).state ≠ .off → exec (.headEnable tag n) s = .next (replied s tag 7 8 (plain .locked))) ∧
      ((s.head h).state = .off → (s.head h).claim = none → s.arbiter.window = .closed →
        ∃ t, exec (.headEnable tag n) s = .next t ∧ Holds t tag 7 8 (plain .ok) ∧
          (t.head h).state = .stalled .noUnit) ∧
      ((s.head h).state = .off → (s.head h).claim = none → s.arbiter.window = .indexing →
        ∃ t, exec (.headEnable tag n) s = .next t ∧ Holds t tag 7 8 (plain .ok) ∧
          (t.head h).state = .stalled .index) ∧
      ((s.head h).state = .idle ∨
          ((∃ r, (s.head h).state = .stalled r ∨ ∃ q, (s.head h).state = .held q) ∧ (s.head h).claim = none) →
        ∃ t, exec (.headDisable tag n) s = .next t ∧ Holds t tag 7 9 (plain .ok) ∧ (t.head h).state = .off ∧
          t.head (otherHead h) = s.head (otherHead h)) ∧
      ((s.head h).state ∈ [.off, .bonding, .holding] ∨ (∃ c, (s.head h).state = .aborting c) ∨
          (∃ c, (s.head h).state = .faulted c) ∨
          ((∃ r, (s.head h).state = .stalled r ∨ ∃ q, (s.head h).state = .held q) ∧ (s.head h).claim ≠ none) →
        exec (.headDisable tag n) s = .next (replied s tag 7 9 (plain .inUse))) ∧
      (∀ id r, (s.head h).state = .off → (s.head h).claim = none → (s.head (otherHead h)).asks = false →
        (∃ a b, s.arbiter.window = .opened a b) → liesIn s .window id r →
        ((∀ c w, ¬ Candidate s h r c w) →
          ∃ t, exec (.headEnable tag n) s = .next t ∧ Holds t tag 7 8 (plain .ok) ∧
            (t.head h).state = .stalled .noUnit) ∧
        ∀ c w, FirstUnit (Candidate s h r) c w →
          (s.heater.gate ≠ .pass →
            ∃ t, exec (.headEnable tag n) s = .next t ∧ Holds t tag 7 8 (plain .ok) ∧
              (t.head h).state = .stalled .heater) ∧
          (s.heater.gate = .pass →
            (∃ x ∈ (s.copyOfStrip id).wires, ∀ k, s.cls x.cls = some k → ¬ passes k) →
            ∃ t, exec (.headEnable tag n) s = .next t ∧ Holds t tag 7 8 (plain .ok) ∧
              (t.head h).state = .stalled .cls) ∧
          (s.heater.gate = .pass → (s.copyOfStrip id).wires ≠ [] →
            (∀ x ∈ (s.copyOfStrip id).wires, ∃ k, s.cls x.cls = some k ∧ passes k) →
            ∃ t, exec (.headEnable tag n) s = .next t ∧ Holds t tag 7 8 (plain .ok) ∧ Granted s t h id c w ∧
              ∀ x ∈ (s.copyOfStrip id).wires, ∀ k, s.cls x.cls = some k → k.state = .proving →
                ∃ d, t.cls x.cls = some d ∧ d.state = .proving ∧ d.budget = k.budget - 1)) ∧
      (∀ v id r c w, h = s.arbiter.first → s.heater.gate ≠ .pass → v ≤ 1000 → s.cell.setPoint ≤ v + s.cell.window →
        v ≤ s.cell.setPoint + s.cell.window → s.head1.asks = true → s.head2.asks = true →
        (∃ a b, s.arbiter.window = .opened a b) → liesIn s .window id r → FirstUnit (Candidate s h r) c w →
        (s.copyOfStrip id).wires ≠ [] →
        (∀ x ∈ (s.copyOfStrip id).wires, ∃ k, s.cls x.cls = some k ∧ (k.state = .qualified ∨ k.state = .watch)) →
        let clear := fun c' w' => Candidate s (otherHead h) r c' w' ∧ (c', w') ≠ (c, w) ∧
          apart s.arbiter.clearance c' c = true
        ∃ t, exec (.reading (.temperature v)) s = .next t ∧ Granted s t h id c w ∧
          t.arbiter = { s.arbiter with first := otherHead h } ∧
          ((∀ c' w', ¬ clear c' w') → (t.head (otherHead h)).state = .stalled .noUnit) ∧
          ∀ c' w', FirstUnit clear c' w' → Granted s t (otherHead h) id c' w') ∧
      ∀ id p,
        ((s.head h).asks = false → s.sendGrant h id p = (.withdrawn, s.undoAdmission h)) ∧
        ((s.head h).asks = true → s.takesGrant id p = false → s.sendGrant h id p = (.refused, s.undoAdmission h)) ∧
        ∀ proving, s.admission h = some proving → proving.Nodup →
          (s.undoAdmission h).admission h = none ∧
          ∀ x k, s.cls x = some k → (s.undoAdmission h).cls x = some
            (if x ∈ proving ∧ k.state = .proving ∧ k.budget < k.settings.provingUnits then
              { k with budget := k.budget + 1 } else k)

/-- HOLD of a BONDING head makes it HOLDING with its wire going on; a HOLDING head is answered OK with no change; an
IDLE or STALLED head is HELD(REQUEST) at once with the claim it may hold; in OFF, ABORTING, HELD and FAULTED it is
LOCKED. No order is sent. A head number outside 1 and 2 is BAD_FIELD (R98, R181). That a held head shows no step and has
no step timer is the model's choice (log 12). -/
def Obligations.HoldByState : Prop :=
  ∀ (s : State) (tag n : Nat), s.link.request = none →
    (headOfNumber n = none → exec (.hold tag n) s = .next (replied s tag 7 10 (plain .badField))) ∧
    ∀ h, headOfNumber n = some h →
    ((s.head h).state = .bonding → ∃ t, exec (.hold tag n) s = .next t ∧ Holds t tag 7 10 (plain .ok) ∧
      t.head h = { s.head h with state := .holding } ∧ t.out = statusOnly s) ∧
    ((s.head h).state = .holding → exec (.hold tag n) s = .next (replied s tag 7 10 (plain .ok))) ∧
    ((s.head h).state = .idle ∨ (∃ r, (s.head h).state = .stalled r) →
      ∃ t, exec (.hold tag n) s = .next t ∧ Holds t tag 7 10 (plain .ok) ∧
        t.head h = { s.head h with state := .held .request, step := none, stepTimer := none } ∧
        t.out = statusOnly s) ∧
    ((s.head h).state = .off ∨ (∃ c, (s.head h).state = .aborting c) ∨ (∃ r, (s.head h).state = .held r) ∨
        (∃ c, (s.head h).state = .faulted c) →
      exec (.hold tag n) s = .next (replied s tag 7 10 (plain .locked)))

/-- RESUME outside HELD is LOCKED, and LOCKED in HELD(CLASS_LAPSED) while the class of the resume wire is LAPSED and in
HELD(CAPILLARY) while N plus the touchdowns needed from the resume point exceeds L. From any other hold it is taken;
consecutive fault units become 0 from MISS_RUN, the spark wire 0 from SPARK. With no claim the head's request is made:
with the window CLOSED it stalls for NO_UNIT. With a claim the three checks are made in order: a spent capillary holds
the head for CAPILLARY, a LAPSED class at a START entry for CLASS_LAPSED, a failing gate stalls it for HEATER. When they
pass, a START entry with a BALL is BONDING in SEEK_FIRST, with POSITION to the first point on the claimed unit, one with
NO_BALL in OPEN_SPARK with SPARK at try 1, and a BUMP entry in BUMP_SPARK with SPARK, the touchdown flag kept. A head
number outside 1 and 2 is BAD_FIELD (R82, R84, R86, R99, R181). That a head not bonding shows no step is the model's
choice (log 12). -/
def Obligations.ResumeByState : Prop :=
  ∀ (s : State) (tag n : Nat), s.link.request = none →
    (headOfNumber n = none → exec (.resume tag n) s = .next (replied s tag 7 11 (plain .badField))) ∧
    ∀ h, headOfNumber n = some h →
    ((∀ r, (s.head h).state ≠ .held r) → exec (.resume tag n) s = .next (replied s tag 7 11 (plain .locked))) ∧
    (∀ c p, (s.head h).state = .held .classLapsed → (s.head h).claim = some c → (s.head h).resume = some p →
      s.classLapsed (s.claimWire { c with wire := p.wire }).cls = true →
      exec (.resume tag n) s = .next (replied s tag 7 11 (plain .locked))) ∧
    ((s.head h).state = .held .request → (s.head h).claim = none → s.arbiter.window = .closed →
      ∃ t, exec (.resume tag n) s = .next t ∧ Holds t tag 7 11 (plain .ok) ∧
        (t.head h).state = .stalled .noUnit) ∧
    (∀ c w, (s.head h).state = .held .request → (s.head h).claim = some c →
      (s.head h).resume = some { wire := w, entry := .start } → (s.head h).ball = true → s.heater.gate = .pass →
      s.classLapsed (s.claimWire { c with wire := w }).cls = false →
      (s.head h).capillary.count + (if (s.claimWire { c with wire := w }).bump.isSome then 3 else 2) ≤
        (s.head h).capillary.life →
      ∃ t, exec (.resume tag n) s = .next t ∧ Holds t tag 7 11 (plain .ok) ∧
        t.head h = { s.head h with state := .bonding, step := some .seekFirst
                                   claim := some { c with wire := w, touched := false }
                                   stepTimer := some (s.head h).positionTimeout } ∧
        t.out = sending (statusOnly s) h
          [.position (placePoint (s.copyOfStrip c.strip) c.column c.row (s.claimWire { c with wire := w }).first)]) ∧
    (∀ reason, (s.head h).state = .held reason → (s.head h).claim = none → s.arbiter.window = .closed →
      ∃ t, exec (.resume tag n) s = .next t ∧ Holds t tag 7 11 (plain .ok) ∧
        t.head h = { resumed (s.head h) reason with state := .stalled .noUnit, step := none, stepTimer := none }) ∧
    ∀ reason c p, (s.head h).state = .held reason → (s.head h).claim = some c → (s.head h).resume = some p →
      let w := s.claimWire { c with wire := p.wire }
      let needed := match p.entry with | .start => if w.bump.isSome then 3 else 2 | .bump => 1
      let spent := (s.head h).capillary.life < (s.head h).capillary.count + needed
      let lapsed := s.classLapsed w.cls = true
      let r := resumed (s.head h) reason
      let atRest := { r with step := none, stepTimer := none }
      (reason = .capillary → spent → exec (.resume tag n) s = .next (replied s tag 7 11 (plain .locked))) ∧
      (reason ≠ .capillary → (reason = .classLapsed → ¬ lapsed) → spent →
        ∃ t, exec (.resume tag n) s = .next t ∧ Holds t tag 7 11 (plain .ok) ∧
          t.head h = { atRest with state := .held .capillary } ∧ t.out = statusOnly s) ∧
      (reason ≠ .classLapsed → ¬ spent → p.entry = .start → lapsed →
        ∃ t, exec (.resume tag n) s = .next t ∧ Holds t tag 7 11 (plain .ok) ∧
          t.head h = { atRest with state := .held .classLapsed } ∧ t.out = statusOnly s) ∧
      ((reason = .classLapsed → ¬ lapsed) → ¬ spent → (p.entry = .start → ¬ lapsed) →
        (s.heater.gate ≠ .pass →
          ∃ t, exec (.resume tag n) s = .next t ∧ Holds t tag 7 11 (plain .ok) ∧
            t.head h = { atRest with state := .stalled .heater } ∧ t.out = statusOnly s) ∧
        (s.heater.gate = .pass →
          ∃ t, exec (.resume tag n) s = .next t ∧ Holds t tag 7 11 (plain .ok) ∧
            (p.entry = .start → (s.head h).ball = true →
              t.head h = { r with state := .bonding, step := some .seekFirst
                                  claim := some { c with wire := p.wire, touched := false }
                                  stepTimer := some (s.head h).positionTimeout } ∧
              t.out = sending (statusOnly s) h
                [.position (placePoint (s.copyOfStrip c.strip) c.column c.row w.first)]) ∧
            (p.entry = .start → (s.head h).ball = false →
              t.head h = { r with state := .bonding, step := some .openSpark, sparkTry := 1
                                  claim := some { c with wire := p.wire, touched := false }
                                  stepTimer := some (s.head h).sparkTimeout } ∧
              t.out = sending (statusOnly s) h [.spark (s.head h).sparkCurrent (s.head h).sparkTime]) ∧
            (p.entry = .bump →
              t.head h = { r with state := .bonding, step := some .bumpSpark, sparkTry := 1
                                  stepTimer := some (s.head h).sparkTimeout } ∧
              t.out = sending (statusOnly s) h [.spark (s.head h).sparkCurrent (s.head h).sparkTime])))

/-- ABORT of a BONDING or HOLDING head sends STOP and leaves it ABORTING with NO_BALL, its claim kept and the stop
timeout of 100 ms running; of one ABORTING it makes the cause ABORT; of one HELD or STALLED with a claim it ends the
claim: the unit is PENDING with no wire done and no touchdown, else REWORK with kind SPARK and the spark wire from
HELD(SPARK), and kind ABORT and the resume wire otherwise, and each class of the admission record that is PROVING has
its budget back; with nothing to give up it is LOCKED. HEAD_RESET of a FAULTED head leaves it HELD(ABORTED) with
NO_BALL, its timers stopped, its receiver waiting for a frame and its claim, latched code, statistics and capillary
kept; in any other state it is LOCKED. A head number outside 1 and 2 is BAD_FIELD of both (R12, R72, R93, R100, R101,
R181, R188). That a head no longer bonding shows no step is the model's choice (log 12). -/
def Obligations.AbortAndHeadReset : Prop :=
  ∀ (s : State) (tag n : Nat), s.link.request = none →
    (headOfNumber n = none →
      exec (.abort tag n) s = .next (replied s tag 7 12 (plain .badField)) ∧
        exec (.headReset tag n) s = .next (replied s tag 7 14 (plain .badField))) ∧
    ∀ h, headOfNumber n = some h →
    ((s.head h).state = .bonding ∨ (s.head h).state = .holding →
      ∃ t, exec (.abort tag n) s = .next t ∧ Holds t tag 7 12 (plain .ok) ∧
        t.head h = { s.head h with state := .aborting .abort, step := none, stepTimer := none, ball := false
                                   stopTimer := some 100 } ∧
        t.out = sending (statusOnly s) h [.stop]) ∧
    ((s.head h).state = .off ∨ (s.head h).state = .idle ∨ (∃ c, (s.head h).state = .faulted c) ∨
        ((∃ r, (s.head h).state = .stalled r ∨ ∃ q, (s.head h).state = .held q) ∧ (s.head h).claim = none) →
      exec (.abort tag n) s = .next (replied s tag 7 12 (plain .locked))) ∧
    ((s.head h).state = .aborting .timeout →
      ∃ t, exec (.abort tag n) s = .next t ∧ Holds t tag 7 12 (plain .ok) ∧
        t.head h = { s.head h with state := .aborting .abort, step := none, stepTimer := none } ∧
        t.out = statusOnly s) ∧
    ((s.head h).state = .aborting .abort → exec (.abort tag n) s = .next (replied s tag 7 12 (plain .ok))) ∧
    (∀ c p u, (∃ r, (s.head h).state = .stalled r ∨ ∃ q, (s.head h).state = .held q) → (s.head h).claim = some c →
      (s.head h).resume = some p → s.unit c.strip c.column c.row = some u → u.state = .claimed h →
      ∃ t v, exec (.abort tag n) s = .next t ∧ Holds t tag 7 12 (plain .ok) ∧ sent t h = [] ∧
        t.head h = { s.head h with state := .held .aborted, step := none, stepTimer := none, claim := none
                                   resume := none } ∧
        BudgetBack s t h ∧ t.unit c.strip c.column c.row = some v ∧
        (u.wiresDone = 0 ∧ c.touched = false → v.fault = none ∧
          ((s.head (otherHead h)).asks = false → v = { u with state := .pending, fault := none })) ∧
        (u.wiresDone ≠ 0 ∨ c.touched = true → v = { u with
          state := .rework
          fault := some (if (s.head h).state = .held .spark then { wire := (s.head h).sparkWire, kind := .spark }
                         else { wire := p.wire, kind := .abort }) })) ∧
    ((∃ c, (s.head h).state = .faulted c) →
      ∃ t, exec (.headReset tag n) s = .next t ∧ Holds t tag 7 14 (plain .ok) ∧
        t.receivers = (match h with
          | .one => { s.receivers with head1 := [] }
          | .two => { s.receivers with head2 := [] }) ∧
        t.head h = { s.head h with state := .held .aborted, step := none, ball := false, stepTimer := none
                                   stopTimer := none } ∧
        t.out = statusOnly s) ∧
    ((∀ c, (s.head h).state ≠ .faulted c) →
      exec (.headReset tag n) s = .next (replied s tag 7 14 (plain .locked)))

/-- NEW_CAPILLARY: BAD_FIELD for a head number outside 1 and 2, IN_USE while the head is BONDING, HOLDING or ABORTING;
in every other state N becomes 0, the serial advances by one, wrapping from 65,535 to 0, the ball state becomes NO_BALL
and consecutive fault units 0, and nothing else of the head changes (R89). -/
def Obligations.NewCapillaryRecorded : Prop :=
  ∀ (s : State) (tag n : Nat), s.link.request = none →
    (headOfNumber n = none → exec (.newCapillary tag n) s = .next (replied s tag 7 13 (plain .badField))) ∧
    ∀ h, headOfNumber n = some h →
      ((s.head h).state = .bonding ∨ (s.head h).state = .holding ∨ (∃ c, (s.head h).state = .aborting c) →
        exec (.newCapillary tag n) s = .next (replied s tag 7 13 (plain .inUse))) ∧
      ((s.head h).state ≠ .bonding → (s.head h).state ≠ .holding → (∀ c, (s.head h).state ≠ .aborting c) →
        ∃ t, exec (.newCapillary tag n) s = .next t ∧ Holds t tag 7 13 (plain .ok) ∧
          t.head h = { s.head h with
            ball := false
            faultRun := 0
            capillary := { (s.head h).capillary with
              count := 0
              serial := if (s.head h).capillary.serial < 65535 then (s.head h).capillary.serial + 1 else 0 } } ∧
          t.head (otherHead h) = s.head (otherHead h))

/-- AMEND of HEAD writes a position timeout of 1 to 2,000 and changes nothing else, and refuses any other BAD_FIELD; so
the bond timeout (1 to 200), the spark timeout (1 to 50), the spark current (1 to 100) and time (1 to 500), the wear
interval (100 to 100,000) and cap (0 to 15), kP (0 to 20) and kF (0 to 5), in every state of the head. A life outside
10,000 to 2,000,000 or below N is BAD_FIELD, one at or above N is IN_USE while the head is BONDING, HOLDING or ABORTING,
and is taken in any other state, with the head's panels marked; a field that no AMEND writes is LOCKED, or BAD_FIELD
when its value is out of range; a head number outside 1 and 2 is NO_SUCH (R78, R90). That the spark wire, the spark try,
the consecutive fault units and the stop timeout, which R90 does not name, are such fields, and that a named N is judged
against the life the head holds, is the model's choice (log 15). -/
def Obligations.HeadAmendJudged : Prop :=
  ∀ (s : State) (tag n v : Nat), s.link.request = none →
    (headOfNumber n = none →
      exec (.amendHead tag n [.positionTimeout v]) s = .next (replied s tag 4 10 (plain .noSuch))) ∧
    ∀ h, headOfNumber n = some h →
      exec (.amendHead tag n [.positionTimeout v]) s = .next
        (if 1 ≤ v ∧ v ≤ 2000 then
          replied (s.setHead h { s.head h with positionTimeout := v }) tag 4 10 (plain .ok)
         else replied s tag 4 10 (plain .badField)) ∧
      (v < (s.head h).capillary.count →
        exec (.amendHead tag n [.life v]) s = .next (replied s tag 4 10 (plain .badField))) ∧
      (10000 ≤ v → v ≤ 2000000 → (s.head h).capillary.count ≤ v →
        (s.head h).state = .bonding ∨ (s.head h).state = .holding →
        exec (.amendHead tag n [.life v]) s = .next (replied s tag 4 10 (plain .inUse))) ∧
      (∀ f, exec (.amendHead tag n [.locked f]) s = .next
        (replied s tag 4 10
          (plain (if lockedHeadFieldOk (s.head h).capillary.life f = true then .locked else .badField)))) ∧
      (v < 10000 ∨ 2000000 < v →
        exec (.amendHead tag n [.life v]) s = .next (replied s tag 4 10 (plain .badField))) ∧
      (∀ cause, 10000 ≤ v → v ≤ 2000000 → (s.head h).capillary.count ≤ v → (s.head h).state = .aborting cause →
        exec (.amendHead tag n [.life v]) s = .next (replied s tag 4 10 (plain .inUse))) ∧
      (10000 ≤ v → v ≤ 2000000 → (s.head h).capillary.count ≤ v → (s.head h).state ≠ .bonding →
        (s.head h).state ≠ .holding → (∀ cause, (s.head h).state ≠ .aborting cause) →
        ∃ t, exec (.amendHead tag n [.life v]) s = .next t ∧
          t = { replied (s.setHead h { s.head h with capillary := { (s.head h).capillary with life := v } }) tag 4 10
                  (plain .ok) with screen := t.screen } ∧
          Marked s t fun k => k = .head h) ∧
      ∀ field low high r, (field, low, high, r) ∈
          [(HeadField.bondTimeout v, 1, 200, { s.head h with bondTimeout := v }),
           (.sparkTimeout v, 1, 50, { s.head h with sparkTimeout := v }),
           (.sparkCurrent v, 1, 100, { s.head h with sparkCurrent := v }),
           (.sparkTime v, 1, 500, { s.head h with sparkTime := v }),
           (.wearInterval v, 100, 100000,
            { s.head h with capillary := { (s.head h).capillary with interval := v } }),
           (.wearCap v, 0, 15, { s.head h with capillary := { (s.head h).capillary with wearCap := v } }),
           (.kP v, 0, 20, { s.head h with capillary := { (s.head h).capillary with kP := v } }),
           (.kF v, 0, 5, { s.head h with capillary := { (s.head h).capillary with kF := v } })] →
        exec (.amendHead tag n [field]) s = .next
          (if low ≤ v ∧ v ≤ high then replied (s.setHead h r) tag 4 10 (plain .ok)
           else replied s tag 4 10 (plain .badField))

/-- The bond events of a wire in progress. CONTACT of each bond step counts one touchdown in N and in the lifetime
count, which wraps at 2^48, sets the touchdown flag, takes the ball in FIRST BOND and BUMP, and leaves the step's timer;
BOND_DONE of FIRST BOND starts the timer again, of SECOND BOND and BUMP it enters the tail with its order; ATTACHED of
FIRST BOND enters LOOPING with the loop shape and the second point placed on the unit, of a tail it enters the bump
spark or the end spark. Each sends what is named and nothing else, and no other part of the state changes (R80, R84,
R85). -/
def Obligations.BondStepEvents : Prop :=
  ∀ (s : State) (h : HeadId) (c : Claim), (s.head h).state = .bonding ∨ (s.head h).state = .holding →
    (s.head h).claim = some c →
    (∀ before after pressesBall,
      (before, after, pressesBall) ∈
        [(Step.firstBond .contact, Step.firstBond .bondDone, true),
         (.secondBond .contact, .secondBond .bondDone, false), (.bump .contact, .bump .bondDone, true)] →
      (s.head h).step = some before →
      exec (.contact h) s = .next (quiet (s.setHead h { s.head h with
        step := some after
        claim := some { c with touched := true }
        capillary := { (s.head h).capillary with count := (s.head h).capillary.count + 1 }
        lifetime := if (s.head h).lifetime < 2 ^ 48 - 1 then (s.head h).lifetime + 1 else 0
        ball := if pressesBall then false else (s.head h).ball }))) ∧
    ((s.head h).step = some (.firstBond .bondDone) →
      exec (.bondDone h) s = .next (quiet (s.setHead h { s.head h with
        step := some (.firstBond .attach), stepTimer := some (s.head h).bondTimeout }))) ∧
    (∀ before after, (before, after) ∈ [(Step.secondBond .bondDone, Step.tail), (.bump .bondDone, .bumpTail)] →
      (s.head h).step = some before →
      exec (.bondDone h) s = .next
        { quiet (s.setHead h { s.head h with step := some after, stepTimer := some (s.head h).bondTimeout }) with
          out := sending .empty h [.tail (s.claimWire c).tail] }) ∧
    (∀ shape, (s.head h).step = some (.firstBond .attach) → nth s.loops (s.claimWire c).loop = some shape →
      exec (.attached h) s = .next
        { quiet (s.setHead h { s.head h with step := some .looping, stepTimer := some (s.head h).positionTimeout }) with
          out := sending .empty h
            [.loop shape (placePoint (s.copyOfStrip c.strip) c.column c.row (s.claimWire c).second)] }) ∧
    (∀ before after,
      (before, after) ∈ [(Step.tail, if (s.claimWire c).bump.isSome then Step.bumpSpark else .endSpark),
                         (.bumpTail, .endSpark)] →
      (s.head h).step = some before →
      exec (.attached h) s = .next
        { quiet (s.setHead h { s.head h with
            step := some after, sparkTry := 1, stepTimer := some (s.head h).sparkTimeout }) with
          out := sending .empty h [.spark (s.head h).sparkCurrent (s.head h).sparkTime] })

/-- AT_POSITION of SEEK_FIRST sends FIRST BOND, of LOOPING SECOND BOND and of BUMP_SEEK BUMP, with a power, force and
time computed at that moment: wear steps, deviation of the work from the set point, temperature power, trim, and the
clamp into the class's windows. A clamp is counted once at the head, an excursion once at the heater, and the record of
the computation replaces the head's last one: the bond kind, the wire and unit of the claim, every value of the
computation and both marks; nothing else of the heater changes. At SEEK_FIRST a class that has LAPSED holds the head
instead, to start the wire again, and no order is sent; that the head then shows no step is the model's choice (log 12)
(R76, R84, R109, R110, R111, R112, R113). -/
def Obligations.AtPositionOrdersBond : Prop :=
  ∀ (s : State) (h : HeadId) (c : Claim) (k : WireClass), (s.head h).state = .bonding ∨ (s.head h).state = .holding →
    (s.head h).claim = some c → s.cls (s.claimWire c).cls = some k →
    (∀ r, (s.head h).step = some .seekFirst → k.state = .lapsed r →
      ∃ t, exec (.atPosition h) s = .next t ∧ t.out = .empty ∧
        t.head h = { s.head h with state := .held .classLapsed, step := none, stepTimer := none
                                   resume := some { wire := c.wire, entry := .start } }) ∧
    (∀ before after given order kind, (before, after, given, order, kind) ∈
        [(Step.seekFirst, Step.firstBond .contact, some (s.claimWire c).firstBond, HeadOrder.firstBond, BondKind.first),
         (.looping, .secondBond .contact, some (s.claimWire c).secondBond, .secondBond, .second),
         (.bumpSeek, .bump .contact, (s.claimWire c).bump, .bump, .bump)] →
      ∀ set, given = some set → (s.head h).step = some before → (before = .seekFirst → ∀ r, k.state ≠ .lapsed r) →
      classOk k.settings = true →
      let cap := (s.head h).capillary
      let steps := min (cap.count / cap.interval) cap.wearCap
      let p1 := set.power + steps * cap.kP
      let f1 := set.force + steps * cap.kF
      let d : Int :=
        match s.heater.lastTemperature with
        | none => 0
        | some th =>
          if s.heater.gate = .pass then (s.cell.setPoint : Int) - th
          else max (-(s.cell.window : Int)) (min s.cell.window ((s.cell.setPoint : Int) - th))
      let p2 := (((p1 : Int) * (4096 + s.cell.gain * d) + 2048) / 4096).toNat
      let p3 : Int := p2 + k.settings.trim * k.settings.trimStep
      ∃ t power force, exec (.atPosition h) s = .next t ∧
        t.out = sending .empty h [order power force set.time] ∧
        (power : Int) = max (k.settings.pMin : Int) (min (k.settings.pMax : Int) p3) ∧
        force = max k.settings.fMin (min k.settings.fMax f1) ∧
        t.head h = { s.head h with
          step := some after
          stepTimer := some (s.head h).bondTimeout
          stats := { (s.head h).stats with
            clamped := if (power : Int) ≠ p3 ∨ force ≠ f1 then count16 (s.head h).stats.clamped
                       else (s.head h).stats.clamped } } ∧
        t.head (otherHead h) = s.head (otherHead h) ∧
        t.heater.excursions =
          (if s.heater.gate = .pass then s.heater.excursions else count16 s.heater.excursions) ∧
        let last : Computation :=
          { kind, wire := c.wire, strip := c.strip, column := c.column, row := c.row, w := steps, d, p1, p2, p3, power
            f1, force, time := set.time, clamp := decide ((power : Int) ≠ p3 ∨ force ≠ f1)
            excursion := decide (s.heater.gate ≠ .pass) }
        t.heater = { s.heater with
          excursions := t.heater.excursions
          computation1 := if h = .one then some last else s.heater.computation1
          computation2 := if h = .two then some last else s.heater.computation2 })

/-- The temperature power is the quotient of P1 × (4,096 + g × d) by 4,096 rounded half up, and with the settings in
their ranges it lies in 0 to 2,113, the upper value being reached; with g = 0 or d = 0 it is P1 (R112). -/
def Obligations.TemperaturePowerRounds : Prop :=
  ∀ (p1 g : Nat) (d : Int),
    (g ≤ 64 → -40 ≤ d → d ≤ 40 →
      4096 * (temperaturePower p1 g d : Int) ≤ p1 * (4096 + g * d) + 2048 ∧
      p1 * (4096 + g * d) + 2048 < 4096 * ((temperaturePower p1 g d : Int) + 1) ∧
      1536 ≤ 4096 + g * d ∧ 4096 + g * d ≤ 6656 ∧
      (p1 ≤ 1300 → temperaturePower p1 g d ≤ 2113)) ∧
    (g = 0 ∨ d = 0 → temperaturePower p1 g d = p1) ∧
    temperaturePower 1300 64 40 = 2113

/-- SPARK_OK leaves a BALL: from OPEN_SPARK the head seeks the first point, from BUMP_SPARK the second; at the END_SPARK
of the last wire the unit is BONDED with one more wire done, the fault run is 0, and the head gives the claim up: a
HOLDING head is HELD(REQUEST), a BONDING one asks, and is decided; of an earlier wire a HOLDING head is HELD(REQUEST)
with its claim, and a BONDING one whose checks pass begins the next wire, START. SPARK_OPEN at try 1 and 2 counts a
retry and sends SPARK again; at try 3 the head is HELD(SPARK): of OPEN_SPARK to start the wire again, of BUMP_SPARK at
its bump, of END_SPARK with the wire done, and the next wire to start or the unit BONDED. DETACHED is a miss: the unit
is FAULT with the wire and the kind, the ball is gone, the claim is given up, and policy STOP or a full run of fault
units holds the head; under CONTINUE with the run not full a HOLDING head is HELD(REQUEST) and a BONDING one asks, and
is decided: told where TRACK cannot begin a move at once and the other head asks for nothing. The proving budget comes
back at a miss. That a held head shows no step is the model's choice (log 12) (R10, R11, R65, R66, R72, R82, R86, R87,
R91, R92). -/
def Obligations.SparkAndMissEvents : Prop :=
  ∀ (s : State) (h : HeadId) (c : Claim), (s.head h).state = .bonding ∨ (s.head h).state = .holding →
    (s.head h).claim = some c →
    ((s.head h).step = some .openSpark →
      exec (.sparkOk h) s = .next
        { quiet (s.setHead h { s.head h with
            ball := true, step := some .seekFirst, stepTimer := some (s.head h).positionTimeout }) with
          out := sending .empty h
            [.position (placePoint (s.copyOfStrip c.strip) c.column c.row (s.claimWire c).first)] }) ∧
    ((s.head h).step = some .bumpSpark →
      exec (.sparkOk h) s = .next
        { quiet (s.setHead h { s.head h with
            ball := true, step := some .bumpSeek, stepTimer := some (s.head h).positionTimeout }) with
          out := sending .empty h
            [.position (placePoint (s.copyOfStrip c.strip) c.column c.row (s.claimWire c).second)] }) ∧
    (∀ u, (s.head h).state = .bonding → (s.head h).step = some .endSpark → c.wire < c.wireCount →
      s.unit c.strip c.column c.row = some u → u.state = .claimed h → u.wiresDone < 600 → s.heater.gate = .pass →
      let w := s.claimWire { c with wire := c.wire + 1 }
      s.classLapsed w.cls = false →
      (s.head h).capillary.count + (if w.bump.isSome then 3 else 2) ≤ (s.head h).capillary.life →
      ∃ t, exec (.sparkOk h) s = .next t ∧
        t.unit c.strip c.column c.row = some { u with wiresDone := u.wiresDone + 1 } ∧
        t.head h = { s.head h with
          ball := true, step := some .seekFirst, stepTimer := some (s.head h).positionTimeout
          claim := some { c with wire := c.wire + 1, touched := false }
          resume := some { wire := c.wire + 1, entry := .start }
          stats := { (s.head h).stats with wiresBonded := count16 (s.head h).stats.wiresBonded } } ∧
        t.out = sending .empty h [.position (placePoint (s.copyOfStrip c.strip) c.column c.row w.first)]) ∧
    (∀ u, (s.head h).state = .holding → (s.head h).step = some .endSpark → c.wire < c.wireCount →
      s.unit c.strip c.column c.row = some u → u.state = .claimed h → u.wiresDone < 600 →
      ∃ t, exec (.sparkOk h) s = .next t ∧ attends t h ∧ t.out = .empty ∧
        t.unit c.strip c.column c.row = some { u with wiresDone := u.wiresDone + 1 } ∧
        t.head h = { s.head h with
          state := .held .request, ball := true, step := none, stepTimer := none
          claim := some { c with wire := c.wire + 1, touched := false }
          resume := some { wire := c.wire + 1, entry := .start }
          stats := { (s.head h).stats with wiresBonded := count16 (s.head h).stats.wiresBonded } }) ∧
    (∀ u, (s.head h).step = some .endSpark → c.wireCount ≤ c.wire → s.unit c.strip c.column c.row = some u →
      u.state = .claimed h → u.wiresDone < 600 →
      ∃ t v, exec (.sparkOk h) s = .next t ∧ t.unit c.strip c.column c.row = some v ∧ v.state = .bonded ∧
        v.wiresDone = u.wiresDone + 1 ∧ v.fault = none ∧
        ((s.head h).state = .holding → (t.head h).state = .held .request ∧ (t.head h).claim = none ∧
          (t.head h).ball = true ∧ (t.head h).faultRun = 0) ∧
        (t.head h).ball = true ∧ (t.head h).faultRun = 0 ∧
        let r : Head := { s.head h with
          step := none, stepTimer := none, claim := none, resume := none, ball := true, faultRun := 0
          stats := { (s.head h).stats with
            wiresBonded := count16 (s.head h).stats.wiresBonded
            unitsBonded := count16 (s.head h).stats.unitsBonded } }
        ((s.head h).state = .holding → t.head h = { r with state := .held .request }) ∧
        ((s.head h).state = .bonding → s.arbiter.window = .closed →
          s.feed.run = false ∨ s.feed.track.state ≠ .idle → t.head h = { r with state := .stalled .noUnit }) ∧
        ((s.head h).state = .bonding → (s.head (otherHead h)).asks = false →
          s.feed.run = false ∨ s.feed.track.state ≠ .idle → Decided s t h)) ∧
    (∀ st ∈ [Step.openSpark, .bumpSpark, .endSpark], (s.head h).step = some st → (s.head h).sparkTry < 3 →
      exec (.sparkOpen h) s = .next
        { quiet (s.setHead h { s.head h with
            sparkTry := (s.head h).sparkTry + 1
            stepTimer := some (s.head h).sparkTimeout
            stats := { (s.head h).stats with sparkRetries := count16 (s.head h).stats.sparkRetries } }) with
          out := sending .empty h [.spark (s.head h).sparkCurrent (s.head h).sparkTime] }) ∧
    (∀ u, (s.head h).step = some .openSpark → (s.head h).sparkTry = 3 → s.unit c.strip c.column c.row = some u →
      ∃ t, exec (.sparkOpen h) s = .next t ∧ t.out = .empty ∧
        t.head h = { s.head h with
          state := .held .spark, step := none, stepTimer := none, ball := false
          resume := some { wire := c.wire, entry := .start }
          sparkWire := u.wiresDone
          stats := { (s.head h).stats with sparkFailures := count16 (s.head h).stats.sparkFailures } }) ∧
    ((s.head h).step = some .bumpSpark → (s.head h).sparkTry = 3 →
      ∃ t, exec (.sparkOpen h) s = .next t ∧ t.out = .empty ∧
        t.head h = { s.head h with
          state := .held .spark, step := none, stepTimer := none, ball := false
          resume := some { wire := c.wire, entry := .bump }
          sparkWire := c.wire
          stats := { (s.head h).stats with sparkFailures := count16 (s.head h).stats.sparkFailures } }) ∧
    (∀ u, (s.head h).step = some .endSpark → (s.head h).sparkTry = 3 → s.unit c.strip c.column c.row = some u →
      u.state = .claimed h → u.wiresDone < 600 →
      ∃ t v, exec (.sparkOpen h) s = .next t ∧ sent t h = [] ∧ (t.head h).state = .held .spark ∧
        (t.head h).ball = false ∧ (t.head h).sparkWire = c.wire ∧ t.unit c.strip c.column c.row = some v ∧
        v.wiresDone = u.wiresDone + 1 ∧
        (c.wire < c.wireCount → v.state = .claimed h ∧
          (t.head h).claim = some { c with wire := c.wire + 1, touched := false } ∧
          (t.head h).resume = some { wire := c.wire + 1, entry := .start }) ∧
        (c.wireCount ≤ c.wire → v.state = .bonded ∧ (t.head h).claim = none ∧ (t.head h).resume = none)) ∧
    (∀ st kind u,
      (st, kind) ∈ [(Step.firstBond .attach, FaultKind.padMiss), (.tail, .leadMiss), (.bumpTail, .leadMiss)] →
      (s.head h).step = some st → s.unit c.strip c.column c.row = some u → u.state = .claimed h →
      ∃ t, exec (.detached h) s = .next t ∧
        t.unit c.strip c.column c.row = some { u with state := .fault, fault := some { wire := c.wire, kind } } ∧
        (∀ k, s.cls (s.claimWire c).cls = some k →
          k.settings.missPolicy = .stop ∨ s.cell.missRun ≤ count8 (s.head h).faultRun →
          t.head h = { s.head h with
            state := .held (if k.settings.missPolicy = .stop then .miss else .missRun)
            step := none, stepTimer := none, claim := none, resume := none, ball := false
            faultRun := count8 (s.head h).faultRun
            stats := { (s.head h).stats with
              padMisses := if kind = .padMiss then count16 (s.head h).stats.padMisses else (s.head h).stats.padMisses
              leadMisses := if kind = .padMiss then (s.head h).stats.leadMisses
                            else count16 (s.head h).stats.leadMisses } } ∧
          BudgetBack s t h) ∧
        (∀ k, s.cls (s.claimWire c).cls = some k → k.settings.missPolicy = .continue_ →
          count8 (s.head h).faultRun < s.cell.missRun →
          (t.head h).ball = false ∧
          (∀ d, (t.head h).claim = some d → (d.strip, d.column, d.row) ≠ (c.strip, c.column, c.row)) ∧
          let r : Head := { s.head h with
            step := none, stepTimer := none, claim := none, resume := none, ball := false
            faultRun := count8 (s.head h).faultRun
            stats := { (s.head h).stats with
              padMisses := if kind = .padMiss then count16 (s.head h).stats.padMisses else (s.head h).stats.padMisses
              leadMisses := if kind = .padMiss then (s.head h).stats.leadMisses
                            else count16 (s.head h).stats.leadMisses } }
          ((s.head h).state = .holding → t.head h = { r with state := .held .request } ∧ BudgetBack s t h) ∧
          ((s.head h).state = .bonding → s.arbiter.window = .closed → s.feed.run = false ∨ s.feed.track.state ≠ .idle →
            t.head h = { r with state := .stalled .noUnit } ∧ BudgetBack s t h) ∧
          ((s.head h).state = .bonding → (s.head (otherHead h)).asks = false →
            s.feed.run = false ∨ s.feed.track.state ≠ .idle → Decided s t h)))

/-- The step timer that expires sends STOP and takes the head to ABORTING(TIMEOUT) with NO_BALL. STOPPED ends ABORTING:
with the timeout cause and no touchdown the head is HELD(TIMEOUT) with its claim, to start the wire again; with a
touchdown, or after ABORT with a wire done or a touchdown, the unit is REWORK with the wire and the kind; after ABORT
with neither it is PENDING; in both cases the claim is given up and the proving budget comes back. The stop timeout
decides the claim by its cause in the same way and takes the head to FAULTED(UNRESPONSIVE) (R12, R72, R93, R94, R95).
That a timeout with no timer of its own to run changes nothing (log 3), and that a head no longer bonding shows no step
(log 12), is the model's choice. -/
def Obligations.StoppingADrive : Prop :=
  ∀ (s : State) (h : HeadId),
    ((s.head h).state = .bonding ∨ (s.head h).state = .holding → (s.head h).stepTimer.isSome →
      ∃ t, exec (.stepTimeout h) s = .next t ∧ t.out = sending .empty h [.stop] ∧
        t.head h = { s.head h with
          state := .aborting .timeout, step := none, stepTimer := none, ball := false, stopTimer := some 100
          stats := { (s.head h).stats with timeouts := count16 (s.head h).stats.timeouts } } ∧
        t.head (otherHead h) = s.head (otherHead h)) ∧
    ((s.head h).state ≠ .bonding → (s.head h).state ≠ .holding → exec (.stepTimeout h) s = .next (quiet s)) ∧
    (∀ c, (s.head h).state = .aborting .timeout → (s.head h).claim = some c → c.touched = false →
      ∃ t, exec (.stopped h) s = .next t ∧ t.out = .empty ∧ attends t h ∧
        t.head h = { s.head h with
          state := .held .timeout, step := none, stepTimer := none, stopTimer := none
          resume := some { wire := c.wire, entry := .start } }) ∧
    (∀ c cause u, (s.head h).state = .aborting cause → (s.head h).claim = some c →
      s.unit c.strip c.column c.row = some u → u.state = .claimed h →
      c.touched = true ∨ cause = .abort ∧ u.wiresDone ≠ 0 →
      ∃ t, exec (.stopped h) s = .next t ∧ attends t h ∧ (t.head h).claim = none ∧
        (t.head h).state = .held (if cause = .abort then .aborted else .timeout) ∧
        t.unit c.strip c.column c.row = some { u with
          state := .rework
          fault := some { wire := c.wire, kind := if cause = .abort then .abort else .timeout } }) ∧
    (∀ cause, (s.head h).state = .aborting cause → (s.head h).stopTimer.isSome →
      ∃ t, exec (.stopTimeout h) s = .next t ∧ attends t h ∧ (t.head h).state = .faulted .unresponsive ∧
        (t.head h).stopTimer = none ∧ (t.head h).capillary = (s.head h).capillary) ∧
    ((∀ cause, (s.head h).state ≠ .aborting cause) → exec (.stopTimeout h) s = .next (quiet s)) ∧
    ∀ c cause u, (s.head h).state = .aborting cause → (s.head h).claim = some c →
      s.unit c.strip c.column c.row = some u → u.state = .claimed h →
      let r : Head := { s.head h with
        step := none, stepTimer := none, stopTimer := none
        claim := if cause = .timeout ∧ c.touched = false then some c else none
        resume := if cause = .timeout ∧ c.touched = false then some { wire := c.wire, entry := .start } else none }
      (∃ t, exec (.stopped h) s = .next t ∧ attends t h ∧ sent t h = [] ∧ AbortingEnded s t h cause c u ∧
        t.head h = { r with state := .held (if cause = .abort then .aborted else .timeout) }) ∧
      ((s.head h).stopTimer.isSome →
        ∃ t, exec (.stopTimeout h) s = .next t ∧ attends t h ∧ sent t h = [] ∧ AbortingEnded s t h cause c u ∧
          t.head h = { r with state := .faulted .unresponsive })

/-- In OFF, IDLE, STALLED, HELD and FAULTED every drive event but DRIVE_FAULT is stray: counted, with no other effect;
so is each but STOPPED in ABORTING, where a CONTACT sets the touchdown flag of the claim besides; so is in BONDING and
HOLDING each that the step does not await, out of its order or of another step, and STOPPED. DRIVE_FAULT latches its
code when none is latched and sets the head's flag: an OFF head is sent STOP and stays OFF, a FAULTED head stays as it
is, and every other head is FAULTED(DRIVE) with NO_BALL, sent STOP unless it is ABORTING. Its claim is decided: with a
touchdown the unit is REWORK with kind DRIVE and the claim is given up, the proving budget back; with none the claim is
kept, and a wire in progress is to be started again; in ABORTING the claim ends as STOPPED ends it. A code of 0 is stray
(R12, R72, R80, R93, R95, R96, R97); that one above 255, which no frame carries, is stray too, and that a claim with no
step in progress keeps its resume point, is the model's choice (log 28). -/
def Obligations.StrayAndDriveFault : Prop :=
  ∀ (s : State) (h : HeadId) (code : Nat),
    let strayed := quiet (s.setHead h { s.head h with
      stats := { (s.head h).stats with strays := count16 (s.head h).stats.strays } })
    let latched := if (s.head h).latched = 0 then code else (s.head h).latched
    ((s.head h).state = .off ∨ (s.head h).state = .idle ∨ (∃ r, (s.head h).state = .stalled r) ∨
        (∃ r, (s.head h).state = .held r) ∨ (∃ r, (s.head h).state = .faulted r) →
      ∀ e ∈ [Instr.atPosition h, .contact h, .bondDone h, .attached h, .detached h, .sparkOk h, .sparkOpen h,
             .stopped h],
        exec e s = .next strayed) ∧
    (∀ cause c, (s.head h).state = .aborting cause → (s.head h).claim = some c →
      exec (.contact h) s = .next (strayed.setHead h
        { strayed.head h with claim := some { c with touched := true } })) ∧
    (∀ cause, (s.head h).state = .aborting cause →
      (∀ e ∈ [Instr.atPosition h, .bondDone h, .attached h, .detached h, .sparkOk h, .sparkOpen h],
        exec e s = .next strayed) ∧
      ((s.head h).claim = none → exec (.contact h) s = .next strayed)) ∧
    (∀ st, (s.head h).state = .bonding ∨ (s.head h).state = .holding → (s.head h).step = some st →
      ∀ e ∈ [Instr.atPosition h, .contact h, .bondDone h, .attached h, .detached h, .sparkOk h, .sparkOpen h,
             .stopped h],
        e ∉ awaited h st → exec e s = .next strayed) ∧
    (code = 0 ∨ 255 < code → exec (.driveFault h code) s = .next strayed) ∧
    (1 ≤ code → code ≤ 255 →
      ((s.head h).state = .off →
        exec (.driveFault h code) s = .next
          { quiet ((s.setHead h { s.head h with latched }).raise (.ofHead h)) with
            out := sending .empty h [.stop] }) ∧
      (∀ cause, (s.head h).state = .faulted cause →
        exec (.driveFault h code) s = .next (quiet ((s.setHead h { s.head h with latched }).raise (.ofHead h)))) ∧
      ((s.head h).state ≠ .off → (∀ cause, (s.head h).state ≠ .faulted cause) →
        ∃ t, exec (.driveFault h code) s = .next t ∧ attends t h ∧ (t.head h).latched = latched ∧
          (t.head h).state = .faulted (.drive code) ∧
          ((∀ cause, (s.head h).state ≠ .aborting cause) → (t.head h).ball = false ∧ sent t h = [.stop]) ∧
          (∀ cause, (s.head h).state = .aborting cause → sent t h = []) ∧
          ∀ c u, (s.head h).claim = some c → s.unit c.strip c.column c.row = some u → u.state = .claimed h →
            (∀ cause, (s.head h).state = .aborting cause → AbortingEnded s t h cause c u) ∧
            ((∀ cause, (s.head h).state ≠ .aborting cause) →
              (c.touched = true → (t.head h).claim = none ∧ (t.head h).resume = none ∧ BudgetBack s t h ∧
                t.unit c.strip c.column c.row = some { u with
                  state := .rework, fault := some { wire := c.wire, kind := .drive } }) ∧
              (c.touched = false → (t.head h).claim = some c ∧ t.unit c.strip c.column c.row = some u ∧
                (t.head h).resume = (if (s.head h).step.isSome then some { wire := c.wire, entry := .start }
                                     else (s.head h).resume)))))

/-! ## The heater -/

/-- A READING of 0 to 1,000 becomes the last reading and the last temperature, age 0 and FRESH with 2,000 ms to run, and
the gate is judged: LOW below Ts − Hw, HIGH above Ts + Hw, else PASS. SENSOR_FAULT keeps the last temperature and fails
the gate; an unreadable frame is counted as discarded and changes nothing else. The freshness timer that expires makes
the reading STALE, and the gate fails; with no timer running it changes nothing, the model's choice (log 3). A head
STALLED(HEATER) with a claim begins its wire when the gate passes again (R83, R105, R106, R107, R115). -/
def Obligations.ReadingsAndGate : Prop :=
  ∀ (s : State) (v : Nat),
    (v ≤ 1000 → ∃ t, exec (.reading (.temperature v)) s = .next t ∧ t.heater = { s.heater with
      last := some (.temperature v), lastTemperature := some v, age := some 0, fresh := true, freshTimer := some 2000
      readings := count16 s.heater.readings
      gate := if v + s.cell.window < s.cell.setPoint then .fail .low
              else if s.cell.setPoint + s.cell.window < v then .fail .high else .pass }) ∧
    (∀ f, f = .sensorFault ∨ (f = .temperature v ∧ 1000 < v) →
      ∃ t, exec (.reading f) s = .next t ∧ t.heater = { s.heater with
        last := some .sensorFault, age := some 0, fresh := true, freshTimer := some 2000
        readings := count16 s.heater.readings, sensorFaults := count16 s.heater.sensorFaults
        gate := .fail .sensorFault }) ∧
    exec (.reading .unreadable) s = .next (quiet { s with
      heater := { s.heater with discarded := count16 s.heater.discarded } }) ∧
    (s.heater.freshTimer.isSome → ∃ t, exec .freshnessExpiry s = .next t ∧ t.heater = { s.heater with
      fresh := false, freshTimer := none, staleExpiries := count16 s.heater.staleExpiries
      gate := if s.heater.last.isNone then .fail .absent else .fail .stale }) ∧
    (s.heater.freshTimer = none → exec .freshnessExpiry s = .next (quiet s)) ∧
    (∀ h c w, s.heater.gate ≠ .pass → v ≤ 1000 → s.cell.setPoint ≤ v + s.cell.window →
      v ≤ s.cell.setPoint + s.cell.window →
      (s.head h).state = .stalled .heater → (s.head h).claim = some c →
      (s.head h).resume = some { wire := w, entry := .start } → (s.head h).ball = true →
      s.classLapsed (s.claimWire { c with wire := w }).cls = false →
      (s.head h).capillary.count + (if (s.claimWire { c with wire := w }).bump.isSome then 3 else 2) ≤
        (s.head h).capillary.life →
      ∃ t, exec (.reading (.temperature v)) s = .next t ∧
        t.head h = { s.head h with
          state := .bonding, step := some .seekFirst, stepTimer := some (s.head h).positionTimeout
          claim := some { c with wire := w, touched := false } } ∧
        sent t h = [.position (placePoint (s.copyOfStrip c.strip) c.column c.row
          (s.claimWire { c with wire := w }).first)])

/-! ## The screen -/

/-- PUT, AMEND and RETIRE of PANEL write the staged copy alone, and refuse in the order of R155: LOCKED at number 16,
NO_SUCH above it. AMEND writes every field that it may name: the record it makes is judged as a PUT's is, and BAD_FIELD
else; the number and the canvas-cleared flag are LOCKED. AMEND of COLOURMAP writes the palette and leaves the palette
shown, or writes an entry of the colour map and marks the STRIP_MAP panels stale; AMEND of BACKLIGHT writes the level,
the off flag, the dim level, and a dim time, which puts the dim timer at 0 or, being 0, ends DIMMED. A value out of
range is BAD_FIELD. Nothing else changes (R152, R153, R154, R155, R158, R167, R168). That an AMEND of the kind leaves
no text to a panel that is TEXT no more (log 34), that a colour map entry given the index it holds marks too (log 44),
and that an AMEND of the dim time leaves the time since the last press (log 21), is the model's reading. -/
def Obligations.PanelColourBacklightWrites : Prop :=
  ∀ (s : State) (tag n v : Nat) (b : PanelBody), s.link.request = none →
    (16 < n → exec (.putPanel tag n b) s = .next (replied s tag 3 12 (plain .noSuch))) ∧
    (n ≤ 15 → findBy Panel.number n s.screen.staged ≠ none →
      exec (.putPanel tag n b) s = .next (replied s tag 3 12 (plain .exists_))) ∧
    (n ≤ 15 → findBy Panel.number n s.screen.staged = none → panelOf n b = none →
      exec (.putPanel tag n b) s = .next (replied s tag 3 12 (plain .badField))) ∧
    (∀ p, n ≤ 15 → findBy Panel.number n s.screen.staged = none → panelOf n b = some p →
      exec (.putPanel tag n b) s = .next
        (replied { s with screen := { s.screen with staged := insertBy Panel.number p s.screen.staged } } tag 3 12
          (plain .ok))) ∧
    (∀ p shown, n ≤ 15 → findBy Panel.number n s.screen.staged = some p → panelOf n (bodyOf p) = some p →
      exec (.amendPanel tag n [.visible shown]) s = .next
        (replied { s with screen := { s.screen with
            staged := insertBy Panel.number { p with visible := shown } s.screen.staged } } tag 4 12 (plain .ok)) ∧
      exec (.amendPanel tag n [.number]) s = .next (replied s tag 4 12 (plain .locked)) ∧
      exec (.retirePanel tag n) s = .next
        (replied { s with screen := { s.screen with staged := removeBy Panel.number n s.screen.staged } } tag 5 12
          (plain .ok))) ∧
    (n ≤ 15 → findBy Panel.number n s.screen.staged = none →
      exec (.amendPanel tag n [.blink true]) s = .next (replied s tag 4 12 (plain .noSuch)) ∧
      exec (.retirePanel tag n) s = .next (replied s tag 5 12 (plain .noSuch))) ∧
    exec (.putPanel tag 16 b) s = .next (replied s tag 3 12 (plain .locked)) ∧
    exec (.amendPanel tag 16 [.x v]) s = .next (replied s tag 4 12 (plain .locked)) ∧
    exec (.retirePanel tag 16) s = .next (replied s tag 5 12 (plain .locked)) ∧
    (16 < n → exec (.amendPanel tag n [.x v]) s = .next (replied s tag 4 12 (plain .noSuch)) ∧
      exec (.retirePanel tag n) s = .next (replied s tag 5 12 (plain .noSuch))) ∧
    (∀ p, n ≤ 15 → findBy Panel.number n s.screen.staged = some p →
      exec (.amendPanel tag n [.canvasCleared]) s = .next (replied s tag 4 12 (plain .locked)) ∧
      ∀ flag bind codes field body, panelOf n (bodyOf p) = some p → (field, body) ∈
          [(PanelField.kind v, { bodyOf p with kind := v, text := if v = 6 then p.text else [] }),
           (.x v, { bodyOf p with x := v }), (.y v, { bodyOf p with y := v }), (.width v, { bodyOf p with width := v }),
           (.height v, { bodyOf p with height := v }), (.binding bind, { bodyOf p with binding := bind }),
           (.background v, { bodyOf p with background := v }), (.foreground v, { bodyOf p with foreground := v }),
           (.blink flag, { bodyOf p with blink := flag }), (.period v, { bodyOf p with period := v }),
           (.visible flag, { bodyOf p with visible := flag }), (.text codes, { bodyOf p with text := codes })] →
        (panelOf n body = none → exec (.amendPanel tag n [field]) s = .next (replied s tag 4 12 (plain .badField))) ∧
        ∀ q, panelOf n body = some q → exec (.amendPanel tag n [field]) s = .next
          (replied { s with screen := { s.screen with staged := insertBy Panel.number q s.screen.staged } } tag 4 12
            (plain .ok))) ∧
    (∀ e colours, (e, colours) ∈
        [(ColourEntry.skip, { s.screen.colours with skip := v }), (.pending, { s.screen.colours with pending := v }),
         (.claimed, { s.screen.colours with claimed := v }), (.bonded, { s.screen.colours with bonded := v }),
         (.fault, { s.screen.colours with fault := v }), (.rework, { s.screen.colours with rework := v }),
         (.reject, { s.screen.colours with reject := v }),
         (.pullPending, { s.screen.colours with pullPending := v }),
         (.pullDone, { s.screen.colours with pullDone := v })] →
      (15 < v → exec (.amendColourmap tag 0 [.map e v]) s = .next (replied s tag 4 13 (plain .badField))) ∧
      (v ≤ 15 → ∃ t, exec (.amendColourmap tag 0 [.map e v]) s = .next t ∧ Holds t tag 4 13 (plain .ok) ∧
        t = { replied s tag 4 13 (plain .ok) with
          screen := { s.screen with colours, stale := t.screen.stale, operation := t.screen.operation
                                    queue := t.screen.queue } } ∧
        Marked s t fun k => (∃ id, k = .stripMap id) ∨ ∃ z, k = .zoneMap z)) ∧
    (∀ flag, exec (.amendBacklight tag 0 [.off flag]) s = .next
      (replied { s with screen := { s.screen with backlight := { s.screen.backlight with off := flag } } } tag 4 14
        (plain .ok))) ∧
    exec (.amendBacklight tag 0 [.dimLevel v]) s = .next
      (if v ≤ 255 then
        replied { s with screen := { s.screen with backlight := { s.screen.backlight with dimLevel := v } } } tag 4 14
          (plain .ok)
       else replied s tag 4 14 (plain .badField)) ∧
    exec (.amendColourmap tag 0 [.palette n v]) s = .next
      (if n ≤ 15 ∧ v ≤ 65535 then
        replied { s with screen := { s.screen with palette := s.screen.palette.set n v } } tag 4 13 (plain .ok)
       else replied s tag 4 13 (plain .badField)) ∧
    exec (.amendBacklight tag 0 [.level v]) s = .next
      (if v ≤ 255 then
        replied { s with screen := { s.screen with backlight := { s.screen.backlight with level := v } } } tag 4 14
          (plain .ok)
       else replied s tag 4 14 (plain .badField)) ∧
    exec (.amendBacklight tag 0 [.dimTime v]) s = .next
      (if 3600 < v then replied s tag 4 14 (plain .badField)
       else replied { s with
         screen := { s.screen with backlight := { s.screen.backlight with dimTime := v } }
         touch := if v = 0 then { s.touch with dimmed := false } else { s.touch with dimTimer := 0 } }
         tag 4 14 (plain .ok))

/-- DRAW joins the end of the queue while an operation is in flight, and with none the engine begins the oldest draw at
once, this one when none waits; it is BUSY with eight waiting, and is BAD_FIELD with a
panel or an index above 15 or an argument out of range. CLEAR_SCREEN answers with the number of draws discarded, the one
in flight included, and leaves frame memory all 0 and no draw waiting; every visible panel is stale, and the engine
chooses the least of them, or sets RENDER with none. A DRAW taken before the first render of the cleared screen has
completed is executed before it: the render is withdrawn, its panel is stale again, frame memory and the renders count
stay (R157, R159, R163, R165). That the first render is begun at once and gives way so, where R159 would have the draw
wait, is the model's choice (log 42); so are BAD_FIELD before BUSY (log 15) and the range of the length of H_LINE and
V_LINE in `shapeOk` (log 39). -/
def Obligations.DrawsQueuedAndCleared : Prop :=
  ∀ (s : State) (tag panel index : Nat) (shape : DrawShape), s.link.request = none →
    (15 < panel ∨ 15 < index ∨ shapeOk shape = false →
      exec (.draw tag panel index shape) s = .next (replied s tag 7 19 (plain .badField))) ∧
    (panel ≤ 15 → index ≤ 15 → shapeOk shape = true → 8 ≤ s.screen.queue.length →
      exec (.draw tag panel index shape) s = .next (replied s tag 7 19 (plain .busy))) ∧
    (∀ op, panel ≤ 15 → index ≤ 15 → shapeOk shape = true → s.screen.queue.length < 8 →
      s.screen.operation = some op → s.screen.cleared = false ∨ (∀ pic, op ≠ .render pic) →
      exec (.draw tag panel index shape) s = .next
        (replied { s with screen := { s.screen with queue := s.screen.queue ++ [{ panel, index, shape }] } } tag 7 19
          (plain .ok))) ∧
    (∀ d rest, panel ≤ 15 → index ≤ 15 → shapeOk shape = true → s.screen.queue.length < 8 →
      s.screen.operation = none → s.screen.queue ++ [Draw.mk panel index shape] = d :: rest →
      exec (.draw tag panel index shape) s = .next
        (replied { s with screen := { s.screen with
          operation := some (.draw d ((s.panel d.panel).map ActivePanel.panel)), queue := rest } } tag 7 19
          (plain .ok))) ∧
    (∃ t, exec (.clearScreen tag) s = .next t ∧
      Holds t tag 7 20 (answered .ok (.discarded (s.screen.queue.length +
        match s.screen.operation with | some (.draw _ _) => 1 | _ => 0))) ∧
      t.screen.frame = [] ∧ t.screen.queue = [] ∧ (∀ d p, t.screen.operation ≠ some (.draw d p)) ∧
      t.screen.active = s.screen.active ∧ t.screen.drawsDropped = s.screen.drawsDropped ∧
      (StaleOk s →
        (Chosen { s with screen := { s.screen with queue := [] } } t fun n =>
          ∃ a ∈ s.screen.active, a.panel.number = n ∧ a.panel.visible = true) ∧
        (t.screen.cleared = true ↔ ∃ a ∈ s.screen.active, a.panel.visible = true))) ∧
    ∀ pic, panel ≤ 15 → index ≤ 15 → shapeOk shape = true → s.screen.queue = [] →
      s.screen.operation = some (.render pic) → s.screen.cleared = true →
      ∃ t, exec (.draw tag panel index shape) s = .next t ∧ Holds t tag 7 19 (plain .ok) ∧
        t.screen.operation = some (.draw { panel, index, shape } ((s.panel panel).map ActivePanel.panel)) ∧
        (∀ n, n ∈ t.screen.stale ↔ n ∈ s.screen.stale ∨
          n = pic.panel.number ∧ ∃ a ∈ s.screen.active, a.panel.number = n ∧ a.panel.visible = true) ∧
        t = { replied s tag 7 19 (plain .ok) with
          screen := { s.screen with operation := t.screen.operation, stale := t.screen.stale } }

/-- FRAME_START brings the palette into use and the staged panels into the active copy. Every pixel of the old area of a
panel retired, hidden or moved is 0, and no other changes; the visible panels changed, or under or beside such an area,
are stale; an operation on a panel changed is cancelled, a draw so dropped and counted, and the engine chooses; another
runs on. A blinking panel's counter advances and returns from period − 1 to 0; one that does not blink, is created, or
has its blink flag or period changed is at 0; a canvas-cleared flag is kept. RENDER_COMPLETE writes every pixel of the
effective rectangle and no other, counts a render, sets canvas-cleared of a CANVAS, and marks the visible panels of
greater number that overlap it; DRAW_COMPLETE writes the pixels its kind sets, clipped to the panel and to what no
visible panel of greater number covers, and no other; a draw to a panel absent, hidden or no CANVAS is dropped. After
each the engine takes the oldest draw, else the least stale panel, whose picture is what R160 to R162 say of its kind,
else it is idle and sets RENDER. A change of a unit, a head, a class, a ticket, a slot, a zone or the colour map marks
the visible panels that show it, and no other, while an operation is in flight (R152, R154, R156 to R164, R166). That
pixels are written, and what covers them read, at completion (log 9), that the engine chooses at the end of the step
(log 10), that counters advance before the application and a hidden panel leaves the stale set (log 11), how an item
that is empty and a small EWMA are written (log 26), that a colour map entry given the index it holds marks (log 44),
and that a completion with no such operation changes nothing (log 3), is the model's choice. -/
def Obligations.FramesAndPixels : Prop :=
  ∀ s : State, FrameOk s → StaleOk s →
    (∃ t, exec .frameStart s = .next t ∧ t.screen.paletteShown = s.screen.palette ∧
      t.screen.palette = s.screen.palette ∧
      (∀ n, n ≤ 15 → (t.panel n).map ActivePanel.panel = findBy Panel.number n s.screen.staged) ∧
      ∀ n p, n ≤ 15 → findBy Panel.number n s.screen.staged = some p →
        (s.panel n = none → t.panel n = some { panel := p, canvasCleared := false, counter := 0 }) ∧
        ∀ a, s.panel n = some a → t.panel n = some
          { panel := p, canvasCleared := a.canvasCleared
            counter := if p.blink = true ∧ a.panel.blink = true ∧ a.panel.period = p.period ∧ a.counter + 1 < p.period
                       then a.counter + 1 else 0 }) ∧
    (∃ t, exec .frameStart s = .next t ∧
      (∀ x y, x < 800 → y < 480 →
        (Cleared s x y → Memory.read t.screen.frame (pixelNumber x y) = 0) ∧
        (¬ Cleared s x y →
          Memory.read t.screen.frame (pixelNumber x y) = Memory.read s.screen.frame (pixelNumber x y))) ∧
      (∀ op n, s.screen.operation = some op →
        n = (match op with
          | .render pic => pic.panel.number
          | .draw d _ => d.panel) →
        (¬ Changed s n → t.screen.operation = some op ∧ t.screen.queue = s.screen.queue ∧
          t.screen.drawsDropped = s.screen.drawsDropped ∧ ∀ m, m ∈ t.screen.stale ↔ StaleAfterFrame s t m) ∧
        (Changed s n →
          t.screen.drawsDropped = (match op with
            | .render _ => s.screen.drawsDropped
            | .draw _ _ => count16 s.screen.drawsDropped) ∧
          t.screen.renders = s.screen.renders ∧ t.screen.drawsExecuted = s.screen.drawsExecuted ∧
          Chosen { s with screen := { s.screen with active := t.screen.active } } t (StaleAfterFrame s t))) ∧
      (s.screen.operation = none → s.screen.queue = [] → s.screen.stale = [] →
        ((∃ m, StaleAfterFrame s t m) →
          Chosen { s with screen := { s.screen with active := t.screen.active } } t (StaleAfterFrame s t)) ∧
        ((∀ m, ¬ StaleAfterFrame s t m) → t.screen.operation = none ∧ t.screen.stale = []))) ∧
    (∀ pic, s.screen.operation = some (.render pic) →
      ∃ t, exec .renderComplete s = .next t ∧ t.screen.renders = count16 s.screen.renders ∧ t.screen.cleared = false ∧
        ∀ x y, x < 800 → y < 480 → Memory.read t.screen.frame (pixelNumber x y) =
          if pic.panel.covers x y then BitVec.ofNat 8 (pic.index (x - pic.panel.x) (y - pic.panel.y))
          else Memory.read s.screen.frame (pixelNumber x y)) ∧
    (∀ pic, s.screen.operation = some (.render pic) →
      ∃ t, exec .renderComplete s = .next t ∧
        (∀ a, s.panel pic.panel.number = some a → t.panel pic.panel.number = some
          { a with canvasCleared := if pic.panel.kind = .canvas then true else a.canvasCleared }) ∧
        Chosen s t fun n => n ∈ s.screen.stale ∨
          ∃ a ∈ s.screen.active, a.panel.number = n ∧ a.panel.visible = true ∧ pic.panel.number < n ∧
            a.panel.overlaps pic.panel = true) ∧
    (∀ d target, s.screen.operation = some (.draw d target) →
      ∃ t, exec .drawComplete s = .next t ∧ Chosen s t fun n => n ∈ s.screen.stale) ∧
    (∀ d p, s.screen.operation = some (.draw d (some p)) → p.visible = true → p.kind = .canvas →
      ∃ t, exec .drawComplete s = .next t ∧ t.screen.drawsExecuted = count16 s.screen.drawsExecuted ∧
        ∀ x y, x < 800 → y < 480 → Memory.read t.screen.frame (pixelNumber x y) =
          if p.covers x y && drawSets d.shape (x - p.x) (y - p.y) && !s.coveredAbove p.number x y then
            BitVec.ofNat 8 d.index
          else Memory.read s.screen.frame (pixelNumber x y)) ∧
    (∀ d target, s.screen.operation = some (.draw d target) →
      (∀ p, target = some p → p.visible = false ∨ p.kind ≠ .canvas) →
      ∃ t, exec .drawComplete s = .next t ∧ t.screen.drawsDropped = count16 s.screen.drawsDropped ∧
        t.screen.frame = s.screen.frame) ∧
    (s.screen.operation = none →
      exec .renderComplete s = .next (quiet s) ∧ exec .drawComplete s = .next (quiet s)) ∧
    ∀ (tag n : Nat), s.link.request = none → s.feed.run = false → s.head1.asks = false → s.head2.asks = false →
      (∀ id c r u, s.unit id c r = some u → u.state = .pending →
        ∃ t, exec (.rejectUnit tag id c r) s = .next t ∧ Marked s t (showsStrip s id)) ∧
      (∀ h, headOfNumber n = some h →
        ((s.head h).state = .bonding → ∃ t, exec (.hold tag n) s = .next t ∧ Marked s t fun k => k = .head h) ∧
        ((s.head h).state = .off → ∃ t, exec (.newCapillary tag n) s = .next t ∧ Marked s t fun k => k = .head h)) ∧
      (∀ page, page * 8 < n → n ≤ page * 8 + 8 → s.cls n ≠ none →
        ∃ t, exec (.requalify tag n) s = .next t ∧ Marked s t fun k => k = .classPage (page + 1)) ∧
      (∀ k u, s.ticket n = some k → s.unit k.strip k.column k.row = some u → u.pull = some (.ticketed .pending n) →
        ∃ t, exec (.withdraw tag n) s = .next t ∧
          Marked s t fun kind => kind = .tickets ∨ showsStrip s k.strip kind) ∧
      (∀ side, s.present (if side = .input then .input else .output) = false →
        ∃ t, exec (.presenceRise side) s = .next t ∧ Marked s t fun k => k = .magazine side) ∧
      (∀ k id, s.feed.output.state = .busy (.push k) → s.feed.exit = some id → nth s.feed.outSlots k = some .empty →
        ∃ t, exec (.done .output) s = .next t ∧
          Marked s t fun kind => kind = .magazine .output ∨ kind = .zoneMap .exit ∨ showsStrip s id kind) ∧
      ∀ e, n ≤ 15 →
        ∃ t, exec (.amendColourmap tag 0 [.map e n]) s = .next t ∧
          Marked s t fun k => (∃ id, k = .stripMap id) ∨ ∃ z, k = .zoneMap z

/-! ## The touch -/

/-- PRESS while the screen is touched sets the dim timer to 0 alone; the first press in DIMMED ends it and does nothing
else; a press on a TEXT or CANVAS panel is recorded at its place in the panel with the TOUCH flag; one on a STRIP_MAP
panel issues UNREJECT_UNIT for a REJECT unit and REJECT_UNIT for any other, and nothing with no strip, a summary or a
margin under it; one on the left half of a HEAD panel issues RESUME for a HELD head and HOLD for any other, on the right
half ABORT with the key at SUPERVISOR; one on a CLASS_PAGE panel names the class of its line, for REQUALIFY with the key
at SUPERVISOR; with the key at OPERATOR ABORT and REQUALIFY are refused LOCKED, marked and counted; one on a TICKETS or
MAGAZINE panel does nothing further. An action has the effect of the host's request; a refused one is recorded. RELEASE,
the dim timer's end and the key switch set what they name; the dim timer's end with dimming off or DIMMED already
changes nothing, the model's choice (log 3). A press taken starts the time since the last press again; that a continued
touch does so too, and sets the dim timer to 0 alone, is log 20's and log 21's reading. Nothing else changes (R14, R167,
R168, R169, R170, R171, R172, R181). -/
def Obligations.TouchEvents : Prop :=
  ∀ (s : State) (x y : Nat),
    let pressed := { s.touch with dimTimer := 0, sincePress := 0, pressed := true
                                  presses := count16 s.touch.presses }
    let px := min x 799
    let py := min y 479
    (s.touch.pressed = true → exec (.press x y) s = .next (quiet { s with touch := { s.touch with
      dimTimer := 0, sincePress := 0 } })) ∧
    (s.touch.pressed = false → s.touch.dimmed = true →
      exec (.press x y) s = .next (quiet { s with touch := { pressed with dimmed := false } })) ∧
    (s.touch.pressed = false → s.touch.dimmed = false →
      (s.topPanel px py = none → exec (.press x y) s = .next (quiet { s with touch := pressed })) ∧
      ∀ a, s.topPanel px py = some a →
        (a.panel.kind = .text ∨ a.panel.kind = .canvas →
          exec (.press x y) s = .next (quiet (State.raise { s with touch := { pressed with
            latest := some { panel := a.panel.number, x := px - a.panel.x, y := py - a.panel.y } } } .touch))) ∧
        (∀ h, a.panel.kind = .head h → a.panel.x + a.panel.effWidth / 2 ≤ px → s.touch.supervisor = false →
          exec (.press x y) s = .next (quiet (State.raise { s with touch := { pressed with
            refused := some { panel := a.panel.number, action := .abort, status := .locked }
            refusals := count16 s.touch.refusals } } .touch))) ∧
        (∀ h, a.panel.kind = .head h → px < a.panel.x + a.panel.effWidth / 2 → (s.head h).state = .bonding →
          ∃ t, exec (.press x y) s = .next t ∧ t.head h = { s.head h with state := .holding } ∧
            t.touch = pressed ∧ t.out = .empty) ∧
        (∀ h, a.panel.kind = .head h →
          (px < a.panel.x + a.panel.effWidth / 2 →
            ((∃ q, (s.head h).state = .held q) → ∃ t, exec (.press x y) s = .next t ∧
              Issues s t pressed a.panel.number .resume (.resume 0 (headNumber h))) ∧
            ((∀ q, (s.head h).state ≠ .held q) → ∃ t, exec (.press x y) s = .next t ∧
              Issues s t pressed a.panel.number .hold (.hold 0 (headNumber h)))) ∧
          (a.panel.x + a.panel.effWidth / 2 ≤ px → s.touch.supervisor = true → ∃ t, exec (.press x y) s = .next t ∧
            Issues s t pressed a.panel.number .abort (.abort 0 (headNumber h)))) ∧
        ((∃ z, a.panel.kind = .zoneMap z) ∨ (∃ id, a.panel.kind = .stripMap id) →
          (s.shownStrip a.panel.kind = none → exec (.press x y) s = .next (quiet { s with touch := pressed })) ∧
          ∀ r, s.shownStrip a.panel.kind = some r →
            let c := (px - a.panel.x) / (cellSize a.panel r).1 + 1
            let w := (py - a.panel.y) / (cellSize a.panel r).2 + 1
            (summarised a.panel r = true ∨ r.columns < c ∨ r.rows < w →
              exec (.press x y) s = .next (quiet { s with touch := pressed })) ∧
            ∀ u, summarised a.panel r = false → c ≤ r.columns → w ≤ r.rows → r.entry c w = some u →
              ∃ t, exec (.press x y) s = .next t ∧
                (u.state = .reject →
                  Issues s t pressed a.panel.number .unrejectUnit (.unrejectUnit 0 r.id c w)) ∧
                (u.state ≠ .reject →
                  Issues s t pressed a.panel.number .rejectUnit (.rejectUnit 0 r.id c w))) ∧
        (∀ page, a.panel.kind = .classPage page →
          let k := (py - a.panel.y) / 16
          (k = 0 ∨ 8 < k → exec (.press x y) s = .next (quiet { s with touch := pressed })) ∧
          (1 ≤ k → k ≤ 8 → s.touch.supervisor = true → ∃ t, exec (.press x y) s = .next t ∧
            Issues s t pressed a.panel.number .requalify (.requalify 0 (8 * (page - 1) + k))) ∧
          (1 ≤ k → k ≤ 8 → s.touch.supervisor = false →
            exec (.press x y) s = .next (quiet (State.raise { s with touch := { pressed with
              refused := some { panel := a.panel.number, action := .requalify, status := .locked }
              refusals := count16 s.touch.refusals } } .touch)))) ∧
        (a.panel.kind = .tickets ∨ (∃ side, a.panel.kind = .magazine side) →
          exec (.press x y) s = .next (quiet { s with touch := pressed }))) ∧
    exec .release s = .next (quiet { s with touch := { s.touch with pressed := false } }) ∧
    (s.screen.backlight.dimTime ≠ 0 → s.touch.dimmed = false →
      exec .dimTimeout s = .next (quiet { s with touch := { s.touch with dimmed := true } })) ∧
    (s.screen.backlight.dimTime = 0 ∨ s.touch.dimmed = true → exec .dimTimeout s = .next (quiet s)) ∧
    (∀ supervisor, exec (.keySwitchChange supervisor) s = .next
      (quiet { s with touch := { s.touch with supervisor } }))

/-! ## Cell reset -/

/-- CELL_RESET stops the feed: a BUSY group is HELD(JAM) with its order in flight as the jammed order, and the strip it
moved is no longer in motion; every other group, every other marker, the slots, zones, soak timer, presence and scan-due
marks stay. It sends STOP on both head links and takes each claim away: an OFF head stays OFF, any other is IDLE and
asks, and is stalled, since the reading is STALE and the gate fails. Each CLAIMED unit is PENDING with no wire done and
no touchdown, else REWORK with the wire of the claim and kind ABORT, and every other unit stays; the admission records
are discarded and each class of one that is PROVING has one of its budget back for each, up to its proving units. The
attention flags are cleared; set after the clearing stand FEED when an order was in flight, STRIP when a unit became
REWORK, a head's flag when it is stalled for HEATER. The receivers of the head links wait for a frame, and the draws
waiting are gone, those and one in flight added to the draws dropped count. The settings, the programs, the loop shapes,
the strip records, the tickets, frame memory and the panels stay (R6, R12, R19, R43, R72, R103, R104, R116, R173, R182,
R188). That the flags a block sets stand after the clearing (log 23), that the draws dropped are counted (log 40), and
that a head not bonding shows no step (log 12), is the model's choice. -/
def Obligations.CellResetKeeps : Prop :=
  ∀ (s : State) (tag : Nat), s.link.request = none →
    ∃ t, exec (.cellReset tag) s = .next t ∧ Holds t tag 7 22 (plain .ok) ∧ t.feed.run = false ∧
      (∀ g o, (t.group g).state ≠ .busy o) ∧
      (let held := fun g => match (s.group g).state with
         | .busy o => { state := .held .jam, jammed := some o, timer := none, limit := 0 }
         | _ => s.group g
       t.feed = { s.feed with run := false, input := held .input, track := held .track, output := held .output }) ∧
      (∀ id r, s.strip id = some r → r.location ∈ [.preheat, .window, .exit] →
        let moved := (s.feed.track.state = .busy .transferPreheat ∧ s.feed.preheat = some id) ∨
          ((s.feed.track.state = .busy .transferWindow ∨ ∃ n, s.feed.track.state = .busy (.index n)) ∧
            s.feed.window = some id) ∨
          ((∃ n, s.feed.output.state = .busy (.elevate n) ∨ s.feed.output.state = .busy (.push n)) ∧
            s.feed.exit = some id)
        ∃ q, t.strip id = some q ∧ q = { r with units := q.units, counts := q.counts, inMotion := q.inMotion } ∧
          (moved → q.inMotion = false) ∧ (¬ moved → q.inMotion = r.inMotion)) ∧
      (∀ h, ((s.head h).state = .off → (t.head h).state = .off) ∧
        ((s.head h).state ≠ .off → ∃ r, (t.head h).state = .stalled r) ∧
        (t.head h).claim = none ∧ (t.head h).ball = false ∧ sent t h = [.stop] ∧
        (t.head h).capillary = (s.head h).capillary ∧ (t.head h).stats = (s.head h).stats) ∧
      t.receivers = { s.receivers with head1 := [], head2 := [] } ∧
      t.heater.fresh = false ∧ t.heater.freshTimer = none ∧ t.heater.gate ≠ .pass ∧
      t.heater.lastTemperature = s.heater.lastTemperature ∧
      t.screen.queue = [] ∧ t.screen.frame = s.screen.frame ∧ t.screen.active = s.screen.active ∧
      t.screen.staged = s.screen.staged ∧ t.cell = s.cell ∧ t.programs = s.programs ∧ t.loops = s.loops ∧
      t.store.strips.map Strip.id = s.store.strips.map Strip.id ∧ t.store.lot = s.store.lot ∧
      t.store.program = s.store.program ∧ t.store.nextStrip = s.store.nextStrip ∧
      t.quality.tickets = s.quality.tickets ∧ t.link.mask = s.link.mask ∧
      t.screen.drawsDropped = min 65535 (s.screen.drawsDropped + s.screen.queue.length +
        match s.screen.operation with | some (.draw _ _) => 1 | _ => 0) ∧
      (∀ h c u, (s.head h).claim = some c → s.unit c.strip c.column c.row = some u → u.state = .claimed h →
        t.unit c.strip c.column c.row = some
          (if u.wiresDone = 0 ∧ c.touched = false then { u with state := .pending, fault := none }
           else { u with state := .rework, fault := some { wire := c.wire, kind := .abort } }) ∧
        (u.wiresDone ≠ 0 ∨ c.touched = true → t.link.flags &&& 0x040 = 0x040)) ∧
      (∀ id c w u, s.unit id c w = some u →
        (∀ h k, (s.head h).claim = some k → (k.strip, k.column, k.row) ≠ (id, c, w)) → t.unit id c w = some u) ∧
      (t.quality = { s.quality with
        classes := t.quality.classes, admission1 := t.quality.admission1, admission2 := t.quality.admission2 }) ∧
      ((∀ h c, (s.head h).claim = some c → ∃ u, s.unit c.strip c.column c.row = some u ∧ u.state = .claimed h) →
        (∀ h, (s.head h).claim ≠ none → t.admission h = none) ∧
        ((∀ h proving, s.admission h = some proving → proving.Nodup) → ∀ x k, s.cls x = some k →
          let returned := ([HeadId.one, .two].filter fun h =>
            (s.head h).claim.isSome && ((s.admission h).getD []).contains x).length
          t.cls x = some { k with budget :=
            if k.state = .proving then max k.budget (min k.settings.provingUnits (k.budget + returned))
            else k.budget })) ∧
      ((s.head1.claim = none ∧ s.head2.claim = none) → t.link.flags &&& 0x040 = 0) ∧
      t.link.flags &&& 0x2B8 = 0 ∧
      ((∃ g o, (s.group g).state = .busy o) → t.link.flags &&& 0x004 = 0x004) ∧
      ((∀ g o, (s.group g).state ≠ .busy o) → t.link.flags &&& 0x004 = 0) ∧
      ∀ h, attends t h ↔ (t.head h).state = .stalled .heater

/-! ## What every step keeps -/

/-- The state after reset meets every invariant. -/
def Obligations.ResetMeetsInvariants : Prop :=
  FrameOk State.reset ∧ TablesOk State.reset ∧ ClassesOk State.reset ∧ OrdersOk State.reset ∧ KeysOk State.reset ∧
    TicketsOk State.reset ∧ BudgetsOk State.reset ∧ WiresOk State.reset ∧ PartOk State.reset ∧ CapillaryOk State.reset ∧
    StaleOk State.reset ∧ CountsOk State.reset ∧ GenerationsOk State.reset

/-- Every step keeps frame memory in its canonical form: pixel numbers below the pixel count, strictly rising, none
listed at 0. And every step keeps the active panels in rising number and the stale set in rising number, each number
once and that of a visible active panel (R152, R155, R157). -/
def Obligations.FrameMemoryStaysCanonical : Prop :=
  (∀ s t : State, FrameOk s → step s = .next t → FrameOk t) ∧
    ∀ s t : State, StaleOk s → step s = .next t → StaleOk t

/-- Every step keeps the tables within their room: 64 strips, 4,096 wire records, 32 tickets, 8 draws, no program id
twice. And while strip and ticket numbers last (log 7), every step keeps the keys of every table rising and in range: 16
programs, 24 loop shapes, 32 classes, 16 panels in either copy, 1 to 40 slots a side; the tickets in ascending number,
each with 1 to 64 wires in ascending index; a PENDING pull part and its ticket naming each other, and a pull part on a
BONDED unit alone. And every step keeps the seven counts of every strip at the numbers of its units in each state; and
every strip's program in the table, the strip in WINDOW with the generation of its program, whose active copy stays
while the strip lies there (R1, R3, R7, R8, R28, R44, R47, R55, R56, R58, R59, R116, R141, R143, R144, R154, R163). -/
def Obligations.TablesStayWithinCapacity : Prop :=
  (∀ s t : State, TablesOk s → step s = .next t → TablesOk t) ∧
    (∀ s t : State, TablesOk s → KeysOk s → TicketsOk s → s.store.nextStrip < 4294967295 →
      s.quality.nextTicket < 4294967295 → step s = .next t → KeysOk t ∧ TicketsOk t) ∧
    ∀ s t : State, TablesOk s → PartOk s → s.store.nextStrip < 4294967295 → step s = .next t →
      (CountsOk s → CountsOk t) ∧ (GenerationsOk s → GenerationsOk t ∧ BondedUnderOne s t)

/-- Every step keeps every class consistent, with its EWMA between 16 times its least and 16 times its greatest result
and no result above 2,000; and no class's budget above its proving units (R117, R118, R122, R132, R133). -/
def Obligations.ClassesKeepAverageLaw : Prop :=
  (∀ s t : State, ClassesOk s → step s = .next t → ClassesOk t) ∧
    ∀ s t : State, BudgetsOk s → step s = .next t → BudgetsOk t

/-- Every bond order that any step sends carries a power of 0 to 1,000 and a force of 5 to 250. And every step keeps
every wire record in its ranges, so that a bond order carries a time of 1 to 500, and lies in the windows of the class
of the wire that its head has claimed (R46, R114, R117). -/
def Obligations.BondOrdersInRange : Prop :=
  (∀ s t : State, ClassesOk s → step s = .next t → OrdersOk t) ∧
    ∀ s t : State, ClassesOk s → WiresOk s → step s = .next t → WiresOk t ∧
      ∀ h, ∀ o ∈ sent t h, ∀ power force time, bondValues o = some (power, force, time) →
        1 ≤ time ∧ time ≤ 500 ∧ ∃ c, (s.head h).claim = some c ∧
          ∀ k, s.cls (s.claimWire c).cls = some k →
            k.settings.pMin ≤ power ∧ power ≤ k.settings.pMax ∧ k.settings.fMin ≤ force ∧ force ≤ k.settings.fMax
end

