-- ==== Sys2Proof/Laws/State.lean ====
section
/-! SUPPORT. What each named update of the state leaves as it was, one fact per field, all true by definition and all
simp rules: no later proof need unfold a record update. -/

namespace Sys2Proof.Machine

/-- A command begins: only the outputs and the announcements change. -/
@[simp] theorem State.begun_frame (s : State) :
    (s.begun).store = s.store ∧ (s.begun).feed = s.feed ∧ (s.begun).cell = s.cell ∧ (s.begun).programs = s.programs ∧
    (s.begun).loops = s.loops ∧ (s.begun).arbiter = s.arbiter ∧ (s.begun).head1 = s.head1 ∧ (s.begun).head2 = s.head2 ∧
    (s.begun).heater = s.heater ∧ (s.begun).quality = s.quality ∧ (s.begun).gauge = s.gauge ∧
    (s.begun).screen = s.screen ∧ (s.begun).touch = s.touch ∧ (s.begun).link = s.link ∧
    (s.begun).receivers = s.receivers ∧ (s.begun).pending = s.pending := by
  repeat' constructor

/-- Raising a flag changes the flags alone. -/
@[simp] theorem State.raise_frame (s : State) (a : Attention) :
    (s.raise a).store = s.store ∧ (s.raise a).feed = s.feed ∧ (s.raise a).cell = s.cell ∧
    (s.raise a).programs = s.programs ∧ (s.raise a).loops = s.loops ∧ (s.raise a).arbiter = s.arbiter ∧
    (s.raise a).head1 = s.head1 ∧ (s.raise a).head2 = s.head2 ∧ (s.raise a).heater = s.heater ∧
    (s.raise a).quality = s.quality ∧ (s.raise a).gauge = s.gauge ∧ (s.raise a).screen = s.screen ∧
    (s.raise a).touch = s.touch ∧ (s.raise a).link.request = s.link.request ∧
    (s.raise a).link.response = s.link.response ∧ (s.raise a).link.overrun = s.link.overrun ∧
    (s.raise a).link.lastTag = s.link.lastTag ∧ (s.raise a).link.counts = s.link.counts ∧
    (s.raise a).link.mask = s.link.mask ∧ (s.raise a).out = s.out ∧ (s.raise a).due = s.due ∧
    (s.raise a).receivers = s.receivers ∧ (s.raise a).pending = s.pending := by
  repeat' constructor

/-- Lowering flags changes the flags alone. -/
@[simp] theorem State.lower_frame (s : State) (b : FlagSet) :
    (s.lower b).store = s.store ∧ (s.lower b).feed = s.feed ∧ (s.lower b).cell = s.cell ∧
    (s.lower b).programs = s.programs ∧ (s.lower b).loops = s.loops ∧ (s.lower b).arbiter = s.arbiter ∧
    (s.lower b).head1 = s.head1 ∧ (s.lower b).head2 = s.head2 ∧ (s.lower b).heater = s.heater ∧
    (s.lower b).quality = s.quality ∧ (s.lower b).gauge = s.gauge ∧ (s.lower b).screen = s.screen ∧
    (s.lower b).touch = s.touch ∧ (s.lower b).link.request = s.link.request ∧
    (s.lower b).link.response = s.link.response ∧ (s.lower b).link.overrun = s.link.overrun ∧
    (s.lower b).link.lastTag = s.link.lastTag ∧ (s.lower b).link.counts = s.link.counts ∧
    (s.lower b).link.mask = s.link.mask ∧ (s.lower b).out = s.out ∧ (s.lower b).due = s.due ∧
    (s.lower b).receivers = s.receivers ∧ (s.lower b).pending = s.pending := by
  repeat' constructor

/-- What `sendHead` leaves as it was. -/
@[simp] theorem State.sendHead_frame (s : State) (h : HeadId) (o : HeadOrder) :
    (s.sendHead h o).store = s.store ∧ (s.sendHead h o).feed = s.feed ∧ (s.sendHead h o).cell = s.cell ∧
    (s.sendHead h o).programs = s.programs ∧ (s.sendHead h o).loops = s.loops ∧ (s.sendHead h o).arbiter = s.arbiter ∧
    (s.sendHead h o).head1 = s.head1 ∧ (s.sendHead h o).head2 = s.head2 ∧ (s.sendHead h o).heater = s.heater ∧
    (s.sendHead h o).quality = s.quality ∧ (s.sendHead h o).gauge = s.gauge ∧ (s.sendHead h o).screen = s.screen ∧
    (s.sendHead h o).touch = s.touch ∧ (s.sendHead h o).link = s.link ∧ (s.sendHead h o).out.track = s.out.track ∧
    (s.sendHead h o).out.verdicts = s.out.verdicts ∧ (s.sendHead h o).out.linkStatus = s.out.linkStatus ∧
    (s.sendHead h o).out.linkBytes = s.out.linkBytes ∧ (s.sendHead h o).out.linkFill = s.out.linkFill ∧
    (s.sendHead h o).due = s.due ∧ (s.sendHead h o).receivers = s.receivers ∧ (s.sendHead h o).pending = s.pending := by
  cases h <;> repeat' constructor

/-- What `sendTrack` leaves as it was. -/
@[simp] theorem State.sendTrack_frame (s : State) (g : Group) (o : Order) :
    (s.sendTrack g o).store = s.store ∧ (s.sendTrack g o).feed = s.feed ∧ (s.sendTrack g o).cell = s.cell ∧
    (s.sendTrack g o).programs = s.programs ∧ (s.sendTrack g o).loops = s.loops ∧
    (s.sendTrack g o).arbiter = s.arbiter ∧ (s.sendTrack g o).head1 = s.head1 ∧ (s.sendTrack g o).head2 = s.head2 ∧
    (s.sendTrack g o).heater = s.heater ∧ (s.sendTrack g o).quality = s.quality ∧ (s.sendTrack g o).gauge = s.gauge ∧
    (s.sendTrack g o).screen = s.screen ∧ (s.sendTrack g o).touch = s.touch ∧ (s.sendTrack g o).link = s.link ∧
    (s.sendTrack g o).out.head1 = s.out.head1 ∧ (s.sendTrack g o).out.head2 = s.out.head2 ∧
    (s.sendTrack g o).out.verdicts = s.out.verdicts ∧ (s.sendTrack g o).out.linkStatus = s.out.linkStatus ∧
    (s.sendTrack g o).out.linkBytes = s.out.linkBytes ∧ (s.sendTrack g o).out.linkFill = s.out.linkFill ∧
    (s.sendTrack g o).due = s.due ∧ (s.sendTrack g o).receivers = s.receivers ∧
    (s.sendTrack g o).pending = s.pending := by
  repeat' constructor

/-- What `sendVerdict` leaves as it was. -/
@[simp] theorem State.sendVerdict_frame (s : State) (b : Byte) :
    (s.sendVerdict b).store = s.store ∧ (s.sendVerdict b).feed = s.feed ∧ (s.sendVerdict b).cell = s.cell ∧
    (s.sendVerdict b).programs = s.programs ∧ (s.sendVerdict b).loops = s.loops ∧
    (s.sendVerdict b).arbiter = s.arbiter ∧ (s.sendVerdict b).head1 = s.head1 ∧ (s.sendVerdict b).head2 = s.head2 ∧
    (s.sendVerdict b).heater = s.heater ∧ (s.sendVerdict b).quality = s.quality ∧ (s.sendVerdict b).gauge = s.gauge ∧
    (s.sendVerdict b).screen = s.screen ∧ (s.sendVerdict b).touch = s.touch ∧ (s.sendVerdict b).link = s.link ∧
    (s.sendVerdict b).out.head1 = s.out.head1 ∧ (s.sendVerdict b).out.head2 = s.out.head2 ∧
    (s.sendVerdict b).out.track = s.out.track ∧ (s.sendVerdict b).out.linkStatus = s.out.linkStatus ∧
    (s.sendVerdict b).out.linkBytes = s.out.linkBytes ∧ (s.sendVerdict b).out.linkFill = s.out.linkFill ∧
    (s.sendVerdict b).due = s.due ∧ (s.sendVerdict b).receivers = s.receivers ∧
    (s.sendVerdict b).pending = s.pending := by
  repeat' constructor

/-- What `dueArbiter` leaves as it was. -/
@[simp] theorem State.dueArbiter_frame (s : State) :
    (s.dueArbiter).store = s.store ∧ (s.dueArbiter).feed = s.feed ∧ (s.dueArbiter).cell = s.cell ∧
    (s.dueArbiter).programs = s.programs ∧ (s.dueArbiter).loops = s.loops ∧ (s.dueArbiter).arbiter = s.arbiter ∧
    (s.dueArbiter).head1 = s.head1 ∧ (s.dueArbiter).head2 = s.head2 ∧ (s.dueArbiter).heater = s.heater ∧
    (s.dueArbiter).quality = s.quality ∧ (s.dueArbiter).gauge = s.gauge ∧ (s.dueArbiter).screen = s.screen ∧
    (s.dueArbiter).touch = s.touch ∧ (s.dueArbiter).link = s.link ∧ (s.dueArbiter).out = s.out ∧
    (s.dueArbiter).due.input = s.due.input ∧ (s.dueArbiter).due.track = s.due.track ∧
    (s.dueArbiter).due.output = s.due.output ∧ (s.dueArbiter).due.engine = s.due.engine ∧
    (s.dueArbiter).receivers = s.receivers ∧ (s.dueArbiter).pending = s.pending := by
  repeat' constructor

/-- What `dueInput` leaves as it was. -/
@[simp] theorem State.dueInput_frame (s : State) :
    (s.dueInput).store = s.store ∧ (s.dueInput).feed = s.feed ∧ (s.dueInput).cell = s.cell ∧
    (s.dueInput).programs = s.programs ∧ (s.dueInput).loops = s.loops ∧ (s.dueInput).arbiter = s.arbiter ∧
    (s.dueInput).head1 = s.head1 ∧ (s.dueInput).head2 = s.head2 ∧ (s.dueInput).heater = s.heater ∧
    (s.dueInput).quality = s.quality ∧ (s.dueInput).gauge = s.gauge ∧ (s.dueInput).screen = s.screen ∧
    (s.dueInput).touch = s.touch ∧ (s.dueInput).link = s.link ∧ (s.dueInput).out = s.out ∧
    (s.dueInput).due.arbiter = s.due.arbiter ∧ (s.dueInput).due.track = s.due.track ∧
    (s.dueInput).due.output = s.due.output ∧ (s.dueInput).due.engine = s.due.engine ∧
    (s.dueInput).receivers = s.receivers ∧ (s.dueInput).pending = s.pending := by
  repeat' constructor

/-- What `dueTrack` leaves as it was. -/
@[simp] theorem State.dueTrack_frame (s : State) :
    (s.dueTrack).store = s.store ∧ (s.dueTrack).feed = s.feed ∧ (s.dueTrack).cell = s.cell ∧
    (s.dueTrack).programs = s.programs ∧ (s.dueTrack).loops = s.loops ∧ (s.dueTrack).arbiter = s.arbiter ∧
    (s.dueTrack).head1 = s.head1 ∧ (s.dueTrack).head2 = s.head2 ∧ (s.dueTrack).heater = s.heater ∧
    (s.dueTrack).quality = s.quality ∧ (s.dueTrack).gauge = s.gauge ∧ (s.dueTrack).screen = s.screen ∧
    (s.dueTrack).touch = s.touch ∧ (s.dueTrack).link = s.link ∧ (s.dueTrack).out = s.out ∧
    (s.dueTrack).due.arbiter = s.due.arbiter ∧ (s.dueTrack).due.input = s.due.input ∧
    (s.dueTrack).due.output = s.due.output ∧ (s.dueTrack).due.engine = s.due.engine ∧
    (s.dueTrack).receivers = s.receivers ∧ (s.dueTrack).pending = s.pending := by
  repeat' constructor

/-- What `dueOutput` leaves as it was. -/
@[simp] theorem State.dueOutput_frame (s : State) :
    (s.dueOutput).store = s.store ∧ (s.dueOutput).feed = s.feed ∧ (s.dueOutput).cell = s.cell ∧
    (s.dueOutput).programs = s.programs ∧ (s.dueOutput).loops = s.loops ∧ (s.dueOutput).arbiter = s.arbiter ∧
    (s.dueOutput).head1 = s.head1 ∧ (s.dueOutput).head2 = s.head2 ∧ (s.dueOutput).heater = s.heater ∧
    (s.dueOutput).quality = s.quality ∧ (s.dueOutput).gauge = s.gauge ∧ (s.dueOutput).screen = s.screen ∧
    (s.dueOutput).touch = s.touch ∧ (s.dueOutput).link = s.link ∧ (s.dueOutput).out = s.out ∧
    (s.dueOutput).due.arbiter = s.due.arbiter ∧ (s.dueOutput).due.input = s.due.input ∧
    (s.dueOutput).due.track = s.due.track ∧ (s.dueOutput).due.engine = s.due.engine ∧
    (s.dueOutput).receivers = s.receivers ∧ (s.dueOutput).pending = s.pending := by
  repeat' constructor

/-- What `dueEngine` leaves as it was. -/
@[simp] theorem State.dueEngine_frame (s : State) :
    (s.dueEngine).store = s.store ∧ (s.dueEngine).feed = s.feed ∧ (s.dueEngine).cell = s.cell ∧
    (s.dueEngine).programs = s.programs ∧ (s.dueEngine).loops = s.loops ∧ (s.dueEngine).arbiter = s.arbiter ∧
    (s.dueEngine).head1 = s.head1 ∧ (s.dueEngine).head2 = s.head2 ∧ (s.dueEngine).heater = s.heater ∧
    (s.dueEngine).quality = s.quality ∧ (s.dueEngine).gauge = s.gauge ∧ (s.dueEngine).screen = s.screen ∧
    (s.dueEngine).touch = s.touch ∧ (s.dueEngine).link = s.link ∧ (s.dueEngine).out = s.out ∧
    (s.dueEngine).due.arbiter = s.due.arbiter ∧ (s.dueEngine).due.input = s.due.input ∧
    (s.dueEngine).due.track = s.due.track ∧ (s.dueEngine).due.output = s.due.output ∧
    (s.dueEngine).receivers = s.receivers ∧ (s.dueEngine).pending = s.pending := by
  repeat' constructor

/-- What `setHead` leaves as it was. -/
@[simp] theorem State.setHead_frame (s : State) (h : HeadId) (r : Head) :
    (s.setHead h r).store = s.store ∧ (s.setHead h r).feed = s.feed ∧ (s.setHead h r).cell = s.cell ∧
    (s.setHead h r).programs = s.programs ∧ (s.setHead h r).loops = s.loops ∧ (s.setHead h r).arbiter = s.arbiter ∧
    (s.setHead h r).heater = s.heater ∧ (s.setHead h r).quality = s.quality ∧ (s.setHead h r).gauge = s.gauge ∧
    (s.setHead h r).screen = s.screen ∧ (s.setHead h r).touch = s.touch ∧ (s.setHead h r).link = s.link ∧
    (s.setHead h r).out = s.out ∧ (s.setHead h r).due = s.due ∧ (s.setHead h r).receivers = s.receivers ∧
    (s.setHead h r).pending = s.pending := by
  cases h <;> repeat' constructor

/-- What `onHead` leaves as it was. -/
@[simp] theorem State.onHead_frame (s : State) (h : HeadId) (f : Head → Head) :
    (s.onHead h f).store = s.store ∧ (s.onHead h f).feed = s.feed ∧ (s.onHead h f).cell = s.cell ∧
    (s.onHead h f).programs = s.programs ∧ (s.onHead h f).loops = s.loops ∧ (s.onHead h f).arbiter = s.arbiter ∧
    (s.onHead h f).heater = s.heater ∧ (s.onHead h f).quality = s.quality ∧ (s.onHead h f).gauge = s.gauge ∧
    (s.onHead h f).screen = s.screen ∧ (s.onHead h f).touch = s.touch ∧ (s.onHead h f).link = s.link ∧
    (s.onHead h f).out = s.out ∧ (s.onHead h f).due = s.due ∧ (s.onHead h f).receivers = s.receivers ∧
    (s.onHead h f).pending = s.pending := by
  cases h <;> repeat' constructor

/-- What `onStats` leaves as it was. -/
@[simp] theorem State.onStats_frame (s : State) (h : HeadId) (f : HeadStats → HeadStats) :
    (s.onStats h f).store = s.store ∧ (s.onStats h f).feed = s.feed ∧ (s.onStats h f).cell = s.cell ∧
    (s.onStats h f).programs = s.programs ∧ (s.onStats h f).loops = s.loops ∧ (s.onStats h f).arbiter = s.arbiter ∧
    (s.onStats h f).heater = s.heater ∧ (s.onStats h f).quality = s.quality ∧ (s.onStats h f).gauge = s.gauge ∧
    (s.onStats h f).screen = s.screen ∧ (s.onStats h f).touch = s.touch ∧ (s.onStats h f).link = s.link ∧
    (s.onStats h f).out = s.out ∧ (s.onStats h f).due = s.due ∧ (s.onStats h f).receivers = s.receivers ∧
    (s.onStats h f).pending = s.pending := by
  cases h <;> repeat' constructor

/-- What `setAdmission` leaves as it was. -/
@[simp] theorem State.setAdmission_frame (s : State) (h : HeadId) (a : Option (List Nat)) :
    (s.setAdmission h a).store = s.store ∧ (s.setAdmission h a).feed = s.feed ∧ (s.setAdmission h a).cell = s.cell ∧
    (s.setAdmission h a).programs = s.programs ∧ (s.setAdmission h a).loops = s.loops ∧
    (s.setAdmission h a).arbiter = s.arbiter ∧ (s.setAdmission h a).head1 = s.head1 ∧
    (s.setAdmission h a).head2 = s.head2 ∧ (s.setAdmission h a).heater = s.heater ∧
    (s.setAdmission h a).quality.classes = s.quality.classes ∧
    (s.setAdmission h a).quality.tickets = s.quality.tickets ∧
    (s.setAdmission h a).quality.nextTicket = s.quality.nextTicket ∧
    (s.setAdmission h a).quality.sampling = s.quality.sampling ∧
    (s.setAdmission h a).quality.counts = s.quality.counts ∧ (s.setAdmission h a).gauge = s.gauge ∧
    (s.setAdmission h a).screen = s.screen ∧ (s.setAdmission h a).touch = s.touch ∧ (s.setAdmission h a).link = s.link ∧
    (s.setAdmission h a).out = s.out ∧ (s.setAdmission h a).due = s.due ∧ (s.setAdmission h a).receivers = s.receivers ∧
    (s.setAdmission h a).pending = s.pending := by
  cases h <;> repeat' constructor

/-- What `setGroup` leaves as it was. -/
@[simp] theorem State.setGroup_frame (s : State) (g : Group) (c : GroupContext) :
    (s.setGroup g c).store = s.store ∧ (s.setGroup g c).feed.run = s.feed.run ∧
    (s.setGroup g c).feed.inSlots = s.feed.inSlots ∧ (s.setGroup g c).feed.outSlots = s.feed.outSlots ∧
    (s.setGroup g c).feed.inTarget = s.feed.inTarget ∧ (s.setGroup g c).feed.outTarget = s.feed.outTarget ∧
    (s.setGroup g c).feed.inPresent = s.feed.inPresent ∧ (s.setGroup g c).feed.outPresent = s.feed.outPresent ∧
    (s.setGroup g c).feed.inScanDue = s.feed.inScanDue ∧ (s.setGroup g c).feed.outScanDue = s.feed.outScanDue ∧
    (s.setGroup g c).feed.preheat = s.feed.preheat ∧ (s.setGroup g c).feed.window = s.feed.window ∧
    (s.setGroup g c).feed.exit = s.feed.exit ∧ (s.setGroup g c).feed.soak = s.feed.soak ∧
    (s.setGroup g c).feed.beforeIndex = s.feed.beforeIndex ∧ (s.setGroup g c).cell = s.cell ∧
    (s.setGroup g c).programs = s.programs ∧ (s.setGroup g c).loops = s.loops ∧ (s.setGroup g c).arbiter = s.arbiter ∧
    (s.setGroup g c).head1 = s.head1 ∧ (s.setGroup g c).head2 = s.head2 ∧ (s.setGroup g c).heater = s.heater ∧
    (s.setGroup g c).quality = s.quality ∧ (s.setGroup g c).gauge = s.gauge ∧ (s.setGroup g c).screen = s.screen ∧
    (s.setGroup g c).touch = s.touch ∧ (s.setGroup g c).link = s.link ∧ (s.setGroup g c).out = s.out ∧
    (s.setGroup g c).due = s.due ∧ (s.setGroup g c).receivers = s.receivers ∧ (s.setGroup g c).pending = s.pending := by
  cases g <;> repeat' constructor

/-- What `onStrip` leaves as it was. -/
@[simp] theorem State.onStrip_frame (s : State) (id : Nat) (f : Strip → Strip) :
    (s.onStrip id f).store.nextStrip = s.store.nextStrip ∧ (s.onStrip id f).store.lot = s.store.lot ∧
    (s.onStrip id f).store.program = s.store.program ∧ (s.onStrip id f).feed = s.feed ∧ (s.onStrip id f).cell = s.cell ∧
    (s.onStrip id f).programs = s.programs ∧ (s.onStrip id f).loops = s.loops ∧ (s.onStrip id f).arbiter = s.arbiter ∧
    (s.onStrip id f).head1 = s.head1 ∧ (s.onStrip id f).head2 = s.head2 ∧ (s.onStrip id f).heater = s.heater ∧
    (s.onStrip id f).quality = s.quality ∧ (s.onStrip id f).gauge = s.gauge ∧ (s.onStrip id f).screen = s.screen ∧
    (s.onStrip id f).touch = s.touch ∧ (s.onStrip id f).link = s.link ∧ (s.onStrip id f).out = s.out ∧
    (s.onStrip id f).due = s.due ∧ (s.onStrip id f).receivers = s.receivers ∧ (s.onStrip id f).pending = s.pending := by
  repeat' constructor

/-- What `onProgram` leaves as it was. -/
@[simp] theorem State.onProgram_frame (s : State) (id : Nat) (f : Program → Program) :
    (s.onProgram id f).store = s.store ∧ (s.onProgram id f).feed = s.feed ∧ (s.onProgram id f).cell = s.cell ∧
    (s.onProgram id f).loops = s.loops ∧ (s.onProgram id f).arbiter = s.arbiter ∧ (s.onProgram id f).head1 = s.head1 ∧
    (s.onProgram id f).head2 = s.head2 ∧ (s.onProgram id f).heater = s.heater ∧ (s.onProgram id f).quality = s.quality ∧
    (s.onProgram id f).gauge = s.gauge ∧ (s.onProgram id f).screen = s.screen ∧ (s.onProgram id f).touch = s.touch ∧
    (s.onProgram id f).link = s.link ∧ (s.onProgram id f).out = s.out ∧ (s.onProgram id f).due = s.due ∧
    (s.onProgram id f).receivers = s.receivers ∧ (s.onProgram id f).pending = s.pending := by
  repeat' constructor

/-- What `onClass` leaves as it was. -/
@[simp] theorem State.onClass_frame (s : State) (id : Nat) (f : WireClass → WireClass) :
    (s.onClass id f).store = s.store ∧ (s.onClass id f).feed = s.feed ∧ (s.onClass id f).cell = s.cell ∧
    (s.onClass id f).programs = s.programs ∧ (s.onClass id f).loops = s.loops ∧ (s.onClass id f).arbiter = s.arbiter ∧
    (s.onClass id f).head1 = s.head1 ∧ (s.onClass id f).head2 = s.head2 ∧ (s.onClass id f).heater = s.heater ∧
    (s.onClass id f).quality.admission1 = s.quality.admission1 ∧
    (s.onClass id f).quality.admission2 = s.quality.admission2 ∧ (s.onClass id f).quality.tickets = s.quality.tickets ∧
    (s.onClass id f).quality.nextTicket = s.quality.nextTicket ∧
    (s.onClass id f).quality.sampling = s.quality.sampling ∧ (s.onClass id f).quality.counts = s.quality.counts ∧
    (s.onClass id f).gauge = s.gauge ∧ (s.onClass id f).screen = s.screen ∧ (s.onClass id f).touch = s.touch ∧
    (s.onClass id f).link = s.link ∧ (s.onClass id f).out = s.out ∧ (s.onClass id f).due = s.due ∧
    (s.onClass id f).receivers = s.receivers ∧ (s.onClass id f).pending = s.pending := by
  repeat' constructor

/-- What `onSampling` leaves as it was. -/
@[simp] theorem State.onSampling_frame (s : State) (id : Nat) (f : Sampling → Sampling) :
    (s.onSampling id f).store = s.store ∧ (s.onSampling id f).feed = s.feed ∧ (s.onSampling id f).cell = s.cell ∧
    (s.onSampling id f).programs = s.programs ∧ (s.onSampling id f).loops = s.loops ∧
    (s.onSampling id f).arbiter = s.arbiter ∧ (s.onSampling id f).head1 = s.head1 ∧
    (s.onSampling id f).head2 = s.head2 ∧ (s.onSampling id f).heater = s.heater ∧
    (s.onSampling id f).quality.classes = s.quality.classes ∧
    (s.onSampling id f).quality.admission1 = s.quality.admission1 ∧
    (s.onSampling id f).quality.admission2 = s.quality.admission2 ∧
    (s.onSampling id f).quality.tickets = s.quality.tickets ∧
    (s.onSampling id f).quality.nextTicket = s.quality.nextTicket ∧
    (s.onSampling id f).quality.counts = s.quality.counts ∧ (s.onSampling id f).gauge = s.gauge ∧
    (s.onSampling id f).screen = s.screen ∧ (s.onSampling id f).touch = s.touch ∧ (s.onSampling id f).link = s.link ∧
    (s.onSampling id f).out = s.out ∧ (s.onSampling id f).due = s.due ∧ (s.onSampling id f).receivers = s.receivers ∧
    (s.onSampling id f).pending = s.pending := by
  repeat' constructor

/-- What a head's record is after it is written. -/
@[simp] theorem State.head_setHead (s : State) (h : HeadId) (r : Head) : (s.setHead h r).head h = r := by cases h <;> rfl

/-- Writing one head leaves the other. -/
@[simp] theorem State.head_setHead_other (s : State) (h : HeadId) (r : Head) :
    (s.setHead h r).head (otherHead h) = s.head (otherHead h) := by cases h <;> rfl

/-- What a head's record is after it is changed. -/
@[simp] theorem State.head_onHead (s : State) (h : HeadId) (f : Head → Head) : (s.onHead h f).head h = f (s.head h) := by
  cases h <;> rfl

/-- Changing one head leaves the other. -/
@[simp] theorem State.head_onHead_other (s : State) (h : HeadId) (f : Head → Head) :
    (s.onHead h f).head (otherHead h) = s.head (otherHead h) := by cases h <;> rfl

/-- What a group's context is after it is written. -/
@[simp] theorem State.group_setGroup (s : State) (g : Group) (c : GroupContext) : (s.setGroup g c).group g = c := by
  cases g <;> rfl

/-- What an admission record is after it is written. -/
@[simp] theorem State.admission_setAdmission (s : State) (h : HeadId) (a : Option (List Nat)) :
    (s.setAdmission h a).admission h = a := by cases h <;> rfl

/-- A head reads the same in states with the same two records. -/
theorem State.head_congr {s t : State} (h1 : t.head1 = s.head1) (h2 : t.head2 = s.head2) (h : HeadId) :
    t.head h = s.head h := by cases h <;> assumption

end Sys2Proof.Machine
end

