-- ==== Sys2Proof/Laws/Link.lean ====
section
/-! SUPPORT. The record link: what taking and answering a frame comes to, and what a step without announcements does
when it settles (R174 to R176). -/

namespace Sys2Proof.Machine

open Sys2Proof.Safety

/-- A frame taken, as one record. -/
theorem State.requestTransaction_takeFrame (s : State) (tag kind code : Nat) :
    s.requestTransaction.takeFrame tag kind code = taken s tag kind code := by
  obtain ⟨st, fe, ce, pr, lo, ar, h1, h2, he, qu, ga, sc, tc, li, rc, ou, du, pe⟩ := s
  obtain ⟨rq, rs, ov, lt, co, fl, ma⟩ := li
  cases rs <;> rfl

/-- With no request in process, a request is taken by its owner, the blocks settle, and the answer is held. -/
theorem State.request_eq {s : State} (h : s.link.request = none) (tag kind code : Nat)
    (owner : State → Answer × State) :
    s.request tag kind code owner =
      (owner (taken s tag kind code)).2.settle.answer (owner (taken s tag kind code)).1 := by
  have ht : s.requestTransaction.link.request = none := h
  simp only [State.request, ht]
  rw [State.requestTransaction_takeFrame]

/-- The same for a request answered with a status alone. -/
theorem State.ask_eq {s : State} (h : s.link.request = none) (tag kind code : Nat)
    (owner : State → Status × State) :
    s.ask tag kind code owner =
      (owner (taken s tag kind code)).2.settle.answer (plain (owner (taken s tag kind code)).1) :=
  State.request_eq h _ _ _ _

/-- During PROCESSING a request is an overrun, whatever its owner would do (R176). -/
theorem State.request_overrun {s : State} {r : RequestSlot} (h : s.link.request = some r) (tag kind code : Nat)
    (owner : State → Answer × State) : s.request tag kind code owner = s.requestTransaction.overrun := by
  have ht : s.requestTransaction.link.request = some r := h
  simp only [State.request, ht]

/-- The same for a request answered with a status alone. -/
theorem State.ask_overrun {s : State} {r : RequestSlot} (h : s.link.request = some r) (tag kind code : Nat)
    (owner : State → Status × State) : s.ask tag kind code owner = s.requestTransaction.overrun :=
  State.request_overrun h _ _ _ _

/-- With no announcement waiting there is nothing to settle. -/
theorem State.settleFor_quiet (n : Nat) {s : State} (h : s.due = .none) : State.settleFor n s = s := by
  cases n with
  | zero => rfl
  | succ n => simp [State.settleFor, State.settleOne, h, Due.none]

/-- With no announcement waiting a step ends where it stands. -/
theorem State.settle_quiet {s : State} (h : s.due = .none) : s.settle = s := by
  simp only [State.settle, State.settleFor_quiet _ h, State.settleEngine, h, Due.none]
  rfl

/-- A request whose owner makes no announcement ends as its owner leaves it, with the answer held. -/
theorem State.request_quiet {s : State} (h : s.link.request = none) (tag kind code : Nat)
    (owner : State → Answer × State) (hd : (owner (taken s tag kind code)).2.due = .none) :
    s.request tag kind code owner =
      (owner (taken s tag kind code)).2.answer (owner (taken s tag kind code)).1 := by
  rw [State.request_eq h, State.settle_quiet hd]

/-- The same for a request answered with a status alone. -/
theorem State.ask_quiet {s : State} (h : s.link.request = none) (tag kind code : Nat)
    (owner : State → Status × State) (hd : (owner (taken s tag kind code)).2.due = .none) :
    s.ask tag kind code owner =
      (owner (taken s tag kind code)).2.answer (plain (owner (taken s tag kind code)).1) :=
  State.request_quiet h _ _ _ _ hd

/-- An event whose share makes no announcement ends there. -/
theorem State.event_quiet {s : State} (f : State → State) (hd : (f s.begun).due = .none) :
    s.event f = .next (f s.begun) := by
  simp only [State.event, State.settle_quiet hd]

/-- What an owner meets: nothing outside the link, the outputs and the announcements has changed. -/
@[simp] theorem taken_frame (s : State) (tag kind code : Nat) :
    (taken s tag kind code).store = s.store ∧ (taken s tag kind code).feed = s.feed ∧
    (taken s tag kind code).cell = s.cell ∧ (taken s tag kind code).programs = s.programs ∧
    (taken s tag kind code).loops = s.loops ∧ (taken s tag kind code).arbiter = s.arbiter ∧
    (taken s tag kind code).head1 = s.head1 ∧ (taken s tag kind code).head2 = s.head2 ∧
    (taken s tag kind code).heater = s.heater ∧ (taken s tag kind code).quality = s.quality ∧
    (taken s tag kind code).gauge = s.gauge ∧ (taken s tag kind code).screen = s.screen ∧
    (taken s tag kind code).touch = s.touch ∧ (taken s tag kind code).receivers = s.receivers ∧
    (taken s tag kind code).pending = s.pending ∧
    (taken s tag kind code).due = .none := by
  repeat' constructor

/-- An answer reaches the request slot and nothing else. -/
@[simp] theorem State.answer_frame (s : State) (a : Answer) :
    (s.answer a).store = s.store ∧ (s.answer a).feed = s.feed ∧ (s.answer a).cell = s.cell ∧
    (s.answer a).programs = s.programs ∧ (s.answer a).loops = s.loops ∧ (s.answer a).arbiter = s.arbiter ∧
    (s.answer a).head1 = s.head1 ∧ (s.answer a).head2 = s.head2 ∧ (s.answer a).heater = s.heater ∧
    (s.answer a).quality = s.quality ∧ (s.answer a).gauge = s.gauge ∧ (s.answer a).screen = s.screen ∧
    (s.answer a).touch = s.touch ∧ (s.answer a).out = s.out ∧ (s.answer a).due = s.due ∧
    (s.answer a).pending = s.pending := by
  repeat' constructor

/-- A request whose owner changes nothing is replied to and leaves the rest. -/
theorem State.answer_taken (s : State) (tag kind code : Nat) (a : Answer) :
    (taken s tag kind code).answer a = replied s tag kind code a := rfl

/-- The type of a transaction, said once: the byte of each type, and no other byte is of it (R185). -/
theorem transactionType_cases (b : Byte) :
    (transactionType b = .request ↔ b = 0x5A) ∧ (transactionType b = .read ↔ b = 0xA5) ∧
      (transactionType b = .unknown ↔ b ≠ 0x5A ∧ b ≠ 0xA5) := by
  unfold transactionType
  split <;> rename_i h
  · subst h; decide
  · split <;> rename_i g
    · subst g; decide
    · exact ⟨iff_of_false nofun h, iff_of_false nofun g, iff_of_true rfl ⟨h, g⟩⟩

end Sys2Proof.Machine
end

