-- ==== Sys2Proof/Laws/Grant.lean ====
section
/-! SUPPORT. The Claim Arbiter's decisions: what carrying one out can do, said once, and what a granted request comes to
when the head asks (R65, R66, R68, R71). -/

namespace Sys2Proof.Machine

/-- What holds through a stall, an admission and a grant holds through a decision carried out, however often it is decided
again. -/
theorem State.serveFor_keeps {h : HeadId} (P : State → Prop)
    (stall : ∀ s r, P s → P (s.enter h (.stalled r))) (adm : ∀ s used, P s → P (s.recordAdmission h used))
    (send : ∀ s id p, P s → P (s.sendGrant h id p).2) (n : Nat) {s : State} (hs : P s) :
    P (State.serveFor n s h).2 := by
  induction n generalizing s with
  | zero => exact hs
  | succ n ih =>
    unfold State.serveFor
    split
    · simp only
      split
      · exact hs
      · exact stall _ _ hs
    · unfold State.admitClaim
      split
      · exact ih hs
      · rename_i r p _ _ t e
        have ht : P t := by
          split at e
          · cases e; exact adm _ _ hs
          · cases e
        have g := send t r.id p ht
        split
        · rename_i v q
          rw [q] at g
          exact ih g
        · rename_i v _ q
          rw [q] at g
          exact g

/-- The same for a whole decision. -/
theorem State.serve_keeps {h : HeadId} (P : State → Prop)
    (stall : ∀ s r, P s → P (s.enter h (.stalled r))) (adm : ∀ s used, P s → P (s.recordAdmission h used))
    (send : ∀ s id p, P s → P (s.sendGrant h id p).2) {s : State} (hs : P s) : P (s.serve h).2 :=
  State.serveFor_keeps P stall adm send _ hs

/-- A decision to stall a head: it is stalled for the reason, and left when it is already (R68). -/
theorem State.serve_stalled {s : State} {h : HeadId} {reason : StallReason} (d : s.decision h = .stalled reason) :
    s.serve h = (false, if (s.head h).state = .stalled reason then s else s.enter h (.stalled reason)) := by
  unfold State.serve State.serveFor
  rw [d]

end Sys2Proof.Machine
end

