-- ==== Sys2Proof/Laws/Settle.lean ====
section
/-! SUPPORT. What acting on the announcements of a step can change, said once: everything `State.base` keeps stays as it
was (R8, R29, R69, R159). -/

namespace Sys2Proof.Machine

/-- The part of the state that acting on announcements leaves alone: what it may change is blanked. -/
def State.base (s : State) : State :=
  { s with
    store := { s.store with strips := [] }
    feed := { s.feed with input := .reset, track := .reset, output := .reset, inScanDue := false, outScanDue := false,
                          inTarget := none, outTarget := none, beforeIndex := none }
    arbiter := { s.arbiter with window := .closed, first := .one }
    head1 := .reset
    head2 := .reset
    quality := { s.quality with classes := s.quality.classes.map fun c => { c with budget := 0 }, admission1 := none,
                                admission2 := none, tickets := [], nextTicket := 0, sampling := [] }
    screen := { s.screen with stale := [], queue := [], operation := none, cleared := false }
    link := { s.link with flags := 0 }
    out := { s.out with head1 := [], head2 := [], track := [] }
    due := .none }

/-! ## The named updates -/

@[simp] theorem State.base_raise (s : State) (a : Attention) : (s.raise a).base = s.base := rfl
@[simp] theorem State.base_dueArbiter (s : State) : s.dueArbiter.base = s.base := rfl
@[simp] theorem State.base_dueInput (s : State) : s.dueInput.base = s.base := rfl
@[simp] theorem State.base_dueTrack (s : State) : s.dueTrack.base = s.base := rfl
@[simp] theorem State.base_dueOutput (s : State) : s.dueOutput.base = s.base := rfl
@[simp] theorem State.base_dueEngine (s : State) : s.dueEngine.base = s.base := rfl
@[simp] theorem State.base_sendHead (s : State) (h : HeadId) (o : HeadOrder) : (s.sendHead h o).base = s.base := by
  cases h <;> rfl
@[simp] theorem State.base_sendTrack (s : State) (g : Group) (o : Order) : (s.sendTrack g o).base = s.base := rfl
@[simp] theorem State.base_setHead (s : State) (h : HeadId) (r : Head) : (s.setHead h r).base = s.base := by
  cases h <;> rfl
@[simp] theorem State.base_onHead (s : State) (h : HeadId) (f : Head → Head) : (s.onHead h f).base = s.base := by
  cases h <;> rfl
@[simp] theorem State.base_onStats (s : State) (h : HeadId) (f : HeadStats → HeadStats) :
    (s.onStats h f).base = s.base := by cases h <;> rfl
@[simp] theorem State.base_setAdmission (s : State) (h : HeadId) (a : Option (List Nat)) :
    (s.setAdmission h a).base = s.base := by cases h <;> rfl
@[simp] theorem State.base_setGroup (s : State) (g : Group) (c : GroupContext) : (s.setGroup g c).base = s.base := by
  cases g <;> rfl
@[simp] theorem State.base_onStrip (s : State) (id : Nat) (f : Strip → Strip) : (s.onStrip id f).base = s.base := rfl
@[simp] theorem State.base_onSampling (s : State) (id : Nat) (f : Sampling → Sampling) :
    (s.onSampling id f).base = s.base := rfl
@[simp] theorem State.base_due (s : State) (d : Due) : State.base { s with due := d } = s.base := rfl
@[simp] theorem State.base_first (s : State) (h : HeadId) :
    State.base { s with arbiter := { s.arbiter with first := h } } = s.base := rfl
@[simp] theorem State.base_window (s : State) (w : WindowState) :
    State.base { s with arbiter := { s.arbiter with window := w } } = s.base := rfl
@[simp] theorem State.base_stale (s : State) (ns : List Nat) :
    State.base { s with screen := { s.screen with stale := ns } } = s.base := rfl
@[simp] theorem State.base_inTarget (s : State) (t : Option Nat) :
    State.base { s with feed := { s.feed with inTarget := t } } = s.base := rfl
@[simp] theorem State.base_outTarget (s : State) (t : Option Nat) :
    State.base { s with feed := { s.feed with outTarget := t } } = s.base := rfl
@[simp] theorem State.base_inScanDue (s : State) (b : Bool) :
    State.base { s with feed := { s.feed with inScanDue := b } } = s.base := rfl
@[simp] theorem State.base_outScanDue (s : State) (b : Bool) :
    State.base { s with feed := { s.feed with outScanDue := b } } = s.base := rfl
@[simp] theorem State.base_before (s : State) (b : Option (Nat × Nat)) :
    State.base { s with feed := { s.feed with beforeIndex := b } } = s.base := rfl
@[simp] theorem State.base_tickets (s : State) (ts : List Ticket) (n : Nat) :
    State.base { s with quality := { s.quality with tickets := ts, nextTicket := n } } = s.base := rfl

/-- A change of a class's budget alone. -/
theorem State.base_onClass_budget (s : State) (id : Nat) (f : WireClass → Nat) :
    (s.onClass id fun c => { c with budget := f c }).base = s.base := by
  have h : (updateBy WireClass.id id (fun c => { c with budget := f c }) s.quality.classes).map
      (fun c => { c with budget := 0 }) = s.quality.classes.map fun c => { c with budget := 0 } := by
    simp only [updateBy, List.map_map]
    refine List.map_congr_left fun c _ => ?_
    simp only [Function.comp]
    split <;> rfl
  simp only [State.onClass, State.base, h]

/-! ## Panels -/

@[simp] theorem State.base_markPanels (s : State) (p : Panel → Bool) : (s.markPanels p).base = s.base := by
  unfold State.markPanels
  simp only
  split <;> simp

@[simp] theorem State.base_markStrip (s : State) (id : Nat) : (s.markStrip id).base = s.base := State.base_markPanels _ _
@[simp] theorem State.base_markZone (s : State) (z : Zone) : (s.markZone z).base = s.base := State.base_markPanels _ _
@[simp] theorem State.base_markHead (s : State) (h : HeadId) : (s.markHead h).base = s.base := State.base_markPanels _ _
@[simp] theorem State.base_markClass (s : State) (id : Nat) : (s.markClass id).base = s.base := State.base_markPanels _ _
@[simp] theorem State.base_markTickets (s : State) : s.markTickets.base = s.base := State.base_markPanels _ _
@[simp] theorem State.base_markMagazine (s : State) (d : Side) : (s.markMagazine d).base = s.base :=
  State.base_markPanels _ _
@[simp] theorem State.base_markAll (s : State) : s.markAll.base = s.base := State.base_markPanels _ _

/-! ## Unit changes and sampling -/

@[simp] theorem State.base_writeUnit (s : State) (id c r : Nat) (old new : UnitState) (f : Option FaultPart) :
    (s.writeUnit id c r old new f).base = s.base := by
  unfold State.writeUnit
  simp only
  split <;> split <;> simp

@[simp] theorem State.base_writePull (s : State) (id c r : Nat) (old new : Option PullPart) :
    (s.writePull id c r old new).2.base = s.base := by
  unfold State.writePull
  split
  · split <;> simp
  · rfl

@[simp] theorem State.base_issueTicket (s : State) (t : Ticket) : (s.issueTicket t).base = s.base := by
  unfold State.issueTicket
  simp only
  split <;> simp

@[simp] theorem State.base_sampleUnit (s : State) (h : HeadId) (r : Strip) (c w : Nat) :
    (s.sampleUnit h r c w).base = s.base := by
  unfold State.sampleUnit
  split
  · rfl
  · simp only [State.base_onSampling]
    split
    · split <;> simp
    · split
      · split <;> simp
      · split
        · split <;> simp
        · split <;> simp

@[simp] theorem State.base_returnBudget (s : State) (id : Nat) : (s.returnBudget id).base = s.base := by
  unfold State.returnBudget
  split
  · split
    · split
      · simp only
        split <;> simp [State.base_onClass_budget]
      · rfl
    · rfl
  · rfl

/-- A fold of steps that keep the base keeps it. -/
theorem State.base_foldl {α : Type} (f : State → α → State) (hf : ∀ s a, (f s a).base = s.base) (l : List α)
    (s : State) : (l.foldl f s).base = s.base := by
  induction l generalizing s with
  | nil => rfl
  | cons a l ih => rw [List.foldl_cons, ih, hf]

@[simp] theorem State.base_endAdmission (s : State) (h : HeadId) (id c r : Nat) (new : UnitState) :
    (s.endAdmission h id c r new).base = s.base := by
  unfold State.endAdmission
  simp only [State.base_setAdmission]
  split
  · split <;> simp
  · exact State.base_foldl _ State.base_returnBudget _ _

@[simp] theorem State.base_changeUnit (s : State) (id c r : Nat) (old new : UnitState) (f : Option FaultPart) :
    (s.changeUnit id c r old new f).base = s.base := by
  unfold State.changeUnit
  simp only
  split <;> simp

@[simp] theorem State.base_reportBonded (s : State) (h : HeadId) (id c r : Nat) :
    (s.reportBonded h id c r).2.base = s.base := by
  unfold State.reportBonded
  split <;> simp

/-! ## Heads and grants -/

@[simp] theorem State.base_enter (s : State) (h : HeadId) (st : HeadState) : (s.enter h st).base = s.base := by
  unfold State.enter
  simp only
  split <;> simp

@[simp] theorem State.base_goIdle (s : State) (h : HeadId) : (s.goIdle h).base = s.base := by
  simp [State.goIdle]

@[simp] theorem State.base_clearClaim (s : State) (h : HeadId) : (s.clearClaim h).base = s.base := by
  simp [State.clearClaim]

@[simp] theorem State.base_stray (s : State) (h : HeadId) : (s.stray h).base = s.base := by
  simp [State.stray]

@[simp] theorem State.base_enterSpark (s : State) (h : HeadId) (st : Step) : (s.enterSpark h st).base = s.base := by
  simp [State.enterSpark, State.inStep, State.sendSpark]

@[simp] theorem State.base_enterSeek (s : State) (h : HeadId) (st : Step) (p : Point) :
    (s.enterSeek h st p).base = s.base := by
  simp [State.enterSeek, State.inStep]

@[simp] theorem State.base_beginWire (s : State) (h : HeadId) : (s.beginWire h).base = s.base := by
  unfold State.beginWire
  split
  · simp only
    split
    · simp
    · split
      · simp
      · split
        · simp
        · split
          · split <;> split <;> simp
          · split <;> simp
  · rfl

@[simp] theorem State.base_bondUnit (s : State) (h : HeadId) (c : Claim) : (s.bondUnit h c).base = s.base := by
  unfold State.bondUnit
  simp only
  split <;> simp

@[simp] theorem State.base_beginUnit (s : State) (h : HeadId) (c : Claim) : (s.beginUnit h c).base = s.base := by
  unfold State.beginUnit
  simp only
  split <;> simp

@[simp] theorem State.base_recordAdmission (s : State) (h : HeadId) (used : List Nat) : (s.recordAdmission h used).base = s.base := by
  unfold State.recordAdmission
  simp only [State.base_setAdmission]
  exact State.base_foldl _ (fun s id => State.base_onClass_budget s id _) _ _

@[simp] theorem State.base_undoAdmission (s : State) (h : HeadId) : (s.undoAdmission h).base = s.base := by
  unfold State.undoAdmission
  rw [State.base_setAdmission]
  exact State.base_foldl _ State.base_returnBudget _ _

@[simp] theorem State.base_reportClaimEnd (s : State) (h : HeadId) (id c r wire : Nat) (k : FaultKind) (b : Bool) :
    (s.reportClaimEnd h id c r wire k b).2.base = s.base := by
  unfold State.reportClaimEnd
  repeat' split
  all_goals simp

@[simp] theorem State.base_sendGrant (s : State) (h : HeadId) (id : Nat) (p : Pos) :
    (s.sendGrant h id p).2.base = s.base := by
  unfold State.sendGrant
  simp only
  repeat' split
  all_goals simp [State.claimUnit, State.handOver]

@[simp] theorem State.base_serve (s : State) (h : HeadId) : (s.serve h).2.base = s.base :=
  State.serve_keeps (fun t => t.base = s.base) (fun _ _ e => (State.base_enter _ _ _).trans e)
    (fun _ _ e => (State.base_recordAdmission _ _ _).trans e) (fun _ _ _ e => (State.base_sendGrant _ _ _ _).trans e) rfl

@[simp] theorem State.base_reexamine (s : State) : s.reexamine.base = s.base := by
  unfold State.reexamine
  split
  · simp [State.contest]
  · simp
  · simp
  · rfl

/-! ## The groups -/

@[simp] theorem State.base_reportBegun (s : State) (id : Nat) : (s.reportBegun id).base = s.base := rfl

@[simp] theorem State.base_beginOrder (s : State) (g : Group) (o : Order) : (s.beginOrder g o).base = s.base := by
  unfold State.beginOrder
  simp only
  split <;> simp

@[simp] theorem State.base_holdGroup (s : State) (g : Group) (r : HoldReason) : (s.holdGroup g r).base = s.base := by
  simp [State.holdGroup]

@[simp] theorem State.base_windowIndexing (s : State) : s.windowIndexing.base = s.base := rfl
@[simp] theorem State.base_closeWindow (s : State) : s.closeWindow.base = s.base := rfl

@[simp] theorem State.base_beginIndex (s : State) (n : Nat) : (s.beginIndex n).base = s.base := by
  simp [State.beginIndex]

@[simp] theorem State.base_examineInput (s : State) : s.examineInput.base = s.base := by
  unfold State.examineInput
  repeat' split
  all_goals simp

@[simp] theorem State.base_examineTrack (s : State) : s.examineTrack.base = s.base := by
  unfold State.examineTrack
  repeat' split
  all_goals simp

@[simp] theorem State.base_examineOutput (s : State) : s.examineOutput.base = s.base := by
  unfold State.examineOutput
  repeat' split
  all_goals simp

/-! ## Draws -/

/-- All that giving way can do: nothing, or withdraw the first render of a cleared screen and mark its panel (R165). -/
theorem State.giveWay_cases (s : State) :
    s.giveWay = s ∨ ∃ pic, s.screen.operation = some (.render pic) ∧ s.screen.cleared = true ∧
      s.giveWay = State.markPanels { s with screen := { s.screen with operation := none } } fun q =>
        q.number == pic.panel.number := by
  unfold State.giveWay
  split
  · split
    · exact .inr ⟨_, ‹_›, ‹_›, rfl⟩
    · exact .inl rfl
  · exact .inl rfl

/-- Giving way keeps the base. -/
@[simp] theorem State.base_giveWay (s : State) : s.giveWay.base = s.base := by
  obtain e | ⟨pic, -, -, e⟩ := s.giveWay_cases <;> rw [e]
  rw [State.base_markPanels]
  rfl

/-! ## Settling -/

@[simp] theorem State.base_chooseOperation (s : State) : s.chooseOperation.base = s.base := by
  unfold State.chooseOperation
  split
  · rfl
  · split
    · rfl
    · simp only
      split <;> rfl
    · rfl

/-- One announcement acted on keeps the base. -/
theorem State.base_settleOne {s t : State} (h : s.settleOne = some t) : t.base = s.base := by
  unfold State.settleOne at h
  repeat' split at h
  all_goals first | (cases h; simp) | cases h

theorem State.base_settleFor (n : Nat) (s : State) : (State.settleFor n s).base = s.base := by
  induction n generalizing s with
  | zero => rfl
  | succ n ih =>
    unfold State.settleFor
    split
    · rfl
    · rename_i t ht
      rw [ih, State.base_settleOne ht]

/-- Settling keeps the base: this is all that a step's announcements can leave changed. -/
@[simp] theorem State.base_settle (s : State) : s.settle.base = s.base := by
  unfold State.settle State.settleEngine
  split
  · simp [State.base_settleFor]
  · exact State.base_settleFor _ _

/-- What settling leaves, field by field. -/
theorem State.settle_keeps (s : State) :
    s.settle.cell = s.cell ∧ s.settle.programs = s.programs ∧ s.settle.loops = s.loops ∧ s.settle.heater = s.heater ∧
    s.settle.gauge = s.gauge ∧ s.settle.touch = s.touch ∧ s.settle.pending = s.pending ∧
    s.settle.store.nextStrip = s.store.nextStrip ∧ s.settle.store.lot = s.store.lot ∧
    s.settle.store.program = s.store.program ∧ s.settle.feed.run = s.feed.run ∧
    s.settle.feed.inSlots = s.feed.inSlots ∧ s.settle.feed.outSlots = s.feed.outSlots ∧
    s.settle.feed.inPresent = s.feed.inPresent ∧ s.settle.feed.outPresent = s.feed.outPresent ∧
    s.settle.feed.preheat = s.feed.preheat ∧ s.settle.feed.window = s.feed.window ∧
    s.settle.feed.exit = s.feed.exit ∧ s.settle.feed.soak = s.feed.soak ∧
    s.settle.arbiter.clearance = s.arbiter.clearance ∧ s.settle.quality.counts = s.quality.counts ∧
    s.settle.screen.frame = s.screen.frame ∧ s.settle.screen.palette = s.screen.palette ∧
    s.settle.screen.paletteShown = s.screen.paletteShown ∧ s.settle.screen.colours = s.screen.colours ∧
    s.settle.screen.active = s.screen.active ∧ s.settle.screen.staged = s.screen.staged ∧
    s.settle.screen.renders = s.screen.renders ∧ s.settle.screen.drawsExecuted = s.screen.drawsExecuted ∧
    s.settle.screen.drawsDropped = s.screen.drawsDropped ∧ s.settle.screen.backlight = s.screen.backlight ∧
    s.settle.link.request = s.link.request ∧ s.settle.link.response = s.link.response ∧
    s.settle.link.overrun = s.link.overrun ∧ s.settle.link.lastTag = s.link.lastTag ∧
    s.settle.link.counts = s.link.counts ∧ s.settle.link.mask = s.link.mask ∧
    s.settle.out.verdicts = s.out.verdicts ∧ s.settle.out.linkStatus = s.out.linkStatus ∧
    s.settle.out.linkBytes = s.out.linkBytes := by
  have h := State.base_settle s
  have e : ∀ {α : Type} (f : State → α), f s.settle.base = f s.base := fun f => congrArg f h
  exact ⟨e State.cell, e State.programs, e State.loops, e State.heater, e State.gauge, e State.touch, e State.pending,
    e (·.store.nextStrip), e (·.store.lot), e (·.store.program), e (·.feed.run), e (·.feed.inSlots),
    e (·.feed.outSlots), e (·.feed.inPresent), e (·.feed.outPresent), e (·.feed.preheat), e (·.feed.window),
    e (·.feed.exit), e (·.feed.soak), e (·.arbiter.clearance), e (·.quality.counts), e (·.screen.frame),
    e (·.screen.palette), e (·.screen.paletteShown), e (·.screen.colours), e (·.screen.active), e (·.screen.staged),
    e (·.screen.renders), e (·.screen.drawsExecuted), e (·.screen.drawsDropped), e (·.screen.backlight),
    e (·.link.request), e (·.link.response), e (·.link.overrun), e (·.link.lastTag), e (·.link.counts),
    e (·.link.mask), e (·.out.verdicts), e (·.out.linkStatus), e (·.out.linkBytes)⟩

/-- Settling leaves every class but its budget. -/
theorem State.settle_classes (s : State) :
    s.settle.quality.classes.map (fun c => { c with budget := 0 }) =
      s.quality.classes.map fun c => { c with budget := 0 } :=
  congrArg (·.quality.classes) (State.base_settle s)

end Sys2Proof.Machine
end

