-- ==== Sys2Proof/Laws/Heads.lean ====
section
/-! SUPPORT. What acting on the announcements of a step leaves of a head that has no standing request: all of its record,
and what was sent to it (R64, R69). -/

namespace Sys2Proof.Machine

/-- A head's record with the orders sent on its link. -/
def State.onLinkOf (s : State) : HeadId → Head × List HeadOrder
  | .one => (s.head1, s.out.head1)
  | .two => (s.head2, s.out.head2)

/-! ## Updates that touch no head -/

@[simp] theorem State.onLinkOf_raise (s : State) (a : Attention) (h : HeadId) : (s.raise a).onLinkOf h = s.onLinkOf h := by
  cases h <;> rfl
@[simp] theorem State.onLinkOf_due (s : State) (d : Due) (h : HeadId) : State.onLinkOf { s with due := d } h = s.onLinkOf h := by
  cases h <;> rfl
@[simp] theorem State.onLinkOf_dueArbiter (s : State) (h : HeadId) : s.dueArbiter.onLinkOf h = s.onLinkOf h := by cases h <;> rfl
@[simp] theorem State.onLinkOf_dueTrack (s : State) (h : HeadId) : s.dueTrack.onLinkOf h = s.onLinkOf h := by cases h <;> rfl
@[simp] theorem State.onLinkOf_dueInput (s : State) (h : HeadId) : s.dueInput.onLinkOf h = s.onLinkOf h := by cases h <;> rfl
@[simp] theorem State.onLinkOf_dueOutput (s : State) (h : HeadId) : s.dueOutput.onLinkOf h = s.onLinkOf h := by cases h <;> rfl
@[simp] theorem State.onLinkOf_dueEngine (s : State) (h : HeadId) : s.dueEngine.onLinkOf h = s.onLinkOf h := by cases h <;> rfl
@[simp] theorem State.onLinkOf_sendTrack (s : State) (g : Group) (o : Order) (h : HeadId) :
    (s.sendTrack g o).onLinkOf h = s.onLinkOf h := by cases h <;> rfl
@[simp] theorem State.onLinkOf_setGroup (s : State) (g : Group) (c : GroupContext) (h : HeadId) :
    (s.setGroup g c).onLinkOf h = s.onLinkOf h := by cases g <;> cases h <;> rfl
@[simp] theorem State.onLinkOf_onStrip (s : State) (id : Nat) (f : Strip → Strip) (h : HeadId) :
    (s.onStrip id f).onLinkOf h = s.onLinkOf h := by cases h <;> rfl
@[simp] theorem State.onLinkOf_onSampling (s : State) (id : Nat) (f : Sampling → Sampling) (h : HeadId) :
    (s.onSampling id f).onLinkOf h = s.onLinkOf h := by cases h <;> rfl
@[simp] theorem State.onLinkOf_onClass (s : State) (id : Nat) (f : WireClass → WireClass) (h : HeadId) :
    (s.onClass id f).onLinkOf h = s.onLinkOf h := by cases h <;> rfl
@[simp] theorem State.onLinkOf_setAdmission (s : State) (g : HeadId) (a : Option (List Nat)) (h : HeadId) :
    (s.setAdmission g a).onLinkOf h = s.onLinkOf h := by cases g <;> cases h <;> rfl
@[simp] theorem State.onLinkOf_arbiter (s : State) (a : Arbiter) (h : HeadId) :
    State.onLinkOf { s with arbiter := a } h = s.onLinkOf h := by cases h <;> rfl
@[simp] theorem State.onLinkOf_feed (s : State) (f : Feed) (h : HeadId) :
    State.onLinkOf { s with feed := f } h = s.onLinkOf h := by cases h <;> rfl
@[simp] theorem State.onLinkOf_quality (s : State) (q : Quality) (h : HeadId) :
    State.onLinkOf { s with quality := q } h = s.onLinkOf h := by cases h <;> rfl
@[simp] theorem State.onLinkOf_screen (s : State) (c : Screen) (h : HeadId) :
    State.onLinkOf { s with screen := c } h = s.onLinkOf h := by cases h <;> rfl
@[simp] theorem State.onLinkOf_markPanels (s : State) (p : Panel → Bool) (h : HeadId) :
    (s.markPanels p).onLinkOf h = s.onLinkOf h := by
  unfold State.markPanels
  simp only
  split <;> simp
@[simp] theorem State.onLinkOf_markStrip (s : State) (id : Nat) (h : HeadId) : (s.markStrip id).onLinkOf h = s.onLinkOf h :=
  State.onLinkOf_markPanels _ _ _
@[simp] theorem State.onLinkOf_markHead (s : State) (g h : HeadId) : (s.markHead g).onLinkOf h = s.onLinkOf h :=
  State.onLinkOf_markPanels _ _ _
@[simp] theorem State.onLinkOf_markTickets (s : State) (h : HeadId) : s.markTickets.onLinkOf h = s.onLinkOf h :=
  State.onLinkOf_markPanels _ _ _

@[simp] theorem State.onLinkOf_writeUnit (s : State) (id c r : Nat) (old new : UnitState) (f : Option FaultPart)
    (h : HeadId) : (s.writeUnit id c r old new f).onLinkOf h = s.onLinkOf h := by
  unfold State.writeUnit
  simp only
  split <;> split <;> simp

@[simp] theorem State.onLinkOf_writePull (s : State) (id c r : Nat) (old new : Option PullPart) (h : HeadId) :
    (s.writePull id c r old new).2.onLinkOf h = s.onLinkOf h := by
  unfold State.writePull
  split
  · split <;> simp
  · rfl

@[simp] theorem State.onLinkOf_issueTicket (s : State) (t : Ticket) (h : HeadId) :
    (s.issueTicket t).onLinkOf h = s.onLinkOf h := by
  unfold State.issueTicket
  simp only
  split <;> simp

@[simp] theorem State.onLinkOf_sampleUnit (s : State) (g : HeadId) (r : Strip) (c w : Nat) (h : HeadId) :
    (s.sampleUnit g r c w).onLinkOf h = s.onLinkOf h := by
  unfold State.sampleUnit
  split
  · rfl
  · simp only [State.onLinkOf_onSampling]
    split
    · split <;> simp
    · split
      · split <;> simp
      · split
        · split <;> simp
        · split <;> simp

@[simp] theorem State.onLinkOf_returnBudget (s : State) (id : Nat) (h : HeadId) :
    (s.returnBudget id).onLinkOf h = s.onLinkOf h := by
  unfold State.returnBudget
  split
  · split
    · split
      · simp only
        split <;> simp
      · rfl
    · rfl
  · rfl

/-- A fold of steps that leave a head leaves it. -/
theorem State.onLinkOf_foldl {α : Type} (f : State → α → State) {h : HeadId} (hf : ∀ s a, (f s a).onLinkOf h = s.onLinkOf h)
    (l : List α) (s : State) : (l.foldl f s).onLinkOf h = s.onLinkOf h := by
  induction l generalizing s with
  | nil => rfl
  | cons a l ih => rw [List.foldl_cons, ih, hf]

@[simp] theorem State.onLinkOf_endAdmission (s : State) (g : HeadId) (id c r : Nat) (new : UnitState) (h : HeadId) :
    (s.endAdmission g id c r new).onLinkOf h = s.onLinkOf h := by
  unfold State.endAdmission
  simp only [State.onLinkOf_setAdmission]
  split
  · split <;> simp
  · exact State.onLinkOf_foldl _ (fun s id => State.onLinkOf_returnBudget s id h) _ _

@[simp] theorem State.onLinkOf_changeUnit (s : State) (id c r : Nat) (old new : UnitState) (f : Option FaultPart)
    (h : HeadId) : (s.changeUnit id c r old new f).onLinkOf h = s.onLinkOf h := by
  unfold State.changeUnit
  simp only
  split <;> simp

@[simp] theorem State.onLinkOf_reportBonded (s : State) (g : HeadId) (id c r : Nat) (h : HeadId) :
    (s.reportBonded g id c r).2.onLinkOf h = s.onLinkOf h := by
  unfold State.reportBonded
  split <;> simp

/-- Reports of a claim's end and of a miss leave both heads as they are. -/
@[simp] theorem State.onLinkOf_reportClaimEnd (s : State) (g : HeadId) (id c r w : Nat) (k : FaultKind) (b : Bool)
    (h : HeadId) : (s.reportClaimEnd g id c r w k b).2.onLinkOf h = s.onLinkOf h := by
  unfold State.reportClaimEnd
  split
  · split
    · split <;> simp
    · rfl
  · rfl

@[simp] theorem State.onLinkOf_reportMiss (s : State) (g : HeadId) (id c r w : Nat) (k : FaultKind) (h : HeadId) :
    (s.reportMiss g id c r w k).2.onLinkOf h = s.onLinkOf h := by
  unfold State.reportMiss
  split <;> simp

/-! ## Updates of one head leave the other -/

theorem State.onLinkOf_setHead {s : State} {g h : HeadId} (n : g ≠ h) (r : Head) : (s.setHead g r).onLinkOf h = s.onLinkOf h := by
  cases g <;> cases h <;> first | rfl | exact absurd rfl n

theorem State.onLinkOf_onHead {s : State} {g h : HeadId} (n : g ≠ h) (f : Head → Head) :
    (s.onHead g f).onLinkOf h = s.onLinkOf h := State.onLinkOf_setHead n _

theorem State.onLinkOf_sendHead {s : State} {g h : HeadId} (n : g ≠ h) (o : HeadOrder) :
    (s.sendHead g o).onLinkOf h = s.onLinkOf h := by
  cases g <;> cases h <;> first | rfl | exact absurd rfl n

theorem State.onLinkOf_onStats {s : State} {g h : HeadId} (n : g ≠ h) (f : HeadStats → HeadStats) :
    (s.onStats g f).onLinkOf h = s.onLinkOf h := State.onLinkOf_setHead n _

theorem State.onLinkOf_enter {s : State} {g h : HeadId} (n : g ≠ h) (st : HeadState) :
    (s.enter g st).onLinkOf h = s.onLinkOf h := by
  unfold State.enter
  simp only
  split <;> simp [State.onLinkOf_onHead n]

theorem State.onLinkOf_goIdle {s : State} {g h : HeadId} (n : g ≠ h) : (s.goIdle g).onLinkOf h = s.onLinkOf h := by
  simp [State.goIdle, State.onLinkOf_enter n]

theorem State.onLinkOf_clearClaim {s : State} {g h : HeadId} (n : g ≠ h) : (s.clearClaim g).onLinkOf h = s.onLinkOf h := by
  simp [State.clearClaim, State.onLinkOf_onHead n]

theorem State.onLinkOf_enterSpark {s : State} {g h : HeadId} (n : g ≠ h) (st : Step) :
    (s.enterSpark g st).onLinkOf h = s.onLinkOf h := by
  simp [State.enterSpark, State.inStep, State.sendSpark, State.onLinkOf_onHead n, State.onLinkOf_sendHead n]

theorem State.onLinkOf_enterSeek {s : State} {g h : HeadId} (n : g ≠ h) (st : Step) (p : Point) :
    (s.enterSeek g st p).onLinkOf h = s.onLinkOf h := by
  simp [State.enterSeek, State.inStep, State.onLinkOf_onHead n, State.onLinkOf_sendHead n]

theorem State.onLinkOf_beginWire {s : State} {g h : HeadId} (n : g ≠ h) : (s.beginWire g).onLinkOf h = s.onLinkOf h := by
  unfold State.beginWire
  split
  · simp only
    split
    · exact State.onLinkOf_enter n _
    · split
      · exact State.onLinkOf_enter n _
      · split
        · exact State.onLinkOf_enter n _
        · split
          · split <;> split <;> simp [State.onLinkOf_enterSeek n, State.onLinkOf_enterSpark n, State.onLinkOf_onHead n, State.onLinkOf_enter n]
          · split <;> simp [State.onLinkOf_enterSpark n, State.onLinkOf_enter n]
  · rfl

theorem State.onLinkOf_bondUnit {s : State} {g h : HeadId} (n : g ≠ h) (c : Claim) :
    (s.bondUnit g c).onLinkOf h = s.onLinkOf h := by
  unfold State.bondUnit
  simp only [State.onLinkOf_clearClaim n, State.onLinkOf_onHead n, State.onLinkOf_onStats n]
  split <;> simp [State.stray, State.onLinkOf_onStats n]

theorem State.onLinkOf_beginUnit {s : State} {g h : HeadId} (n : g ≠ h) (c : Claim) :
    (s.beginUnit g c).onLinkOf h = s.onLinkOf h := by
  unfold State.beginUnit
  simp only
  split <;> simp [State.onLinkOf_goIdle n, State.onLinkOf_bondUnit n, State.onLinkOf_beginWire n, State.onLinkOf_enter n,
    State.onLinkOf_onHead n]

@[simp] theorem State.onLinkOf_recordAdmission (s : State) (g : HeadId) (used : List Nat) (h : HeadId) :
    (s.recordAdmission g used).onLinkOf h = s.onLinkOf h := by
  unfold State.recordAdmission
  simp only [State.onLinkOf_setAdmission]
  exact State.onLinkOf_foldl _ (fun s id => State.onLinkOf_onClass s id _ h) _ _

@[simp] theorem State.onLinkOf_undoAdmission (s : State) (g h : HeadId) :
    (s.undoAdmission g).onLinkOf h = s.onLinkOf h := by
  unfold State.undoAdmission
  rw [State.onLinkOf_setAdmission]
  exact State.onLinkOf_foldl _ (fun s id => State.onLinkOf_returnBudget s id h) _ _

theorem State.onLinkOf_sendGrant {s : State} {g h : HeadId} (n : g ≠ h) (id : Nat) (p : Pos) :
    (s.sendGrant g id p).2.onLinkOf h = s.onLinkOf h := by
  unfold State.sendGrant
  simp only
  repeat' split
  all_goals simp [State.claimUnit, State.handOver, State.onLinkOf_beginUnit n]

theorem State.onLinkOf_serve {s : State} {g h : HeadId} (n : g ≠ h) : (s.serve g).2.onLinkOf h = s.onLinkOf h :=
  State.serve_keeps (fun t => t.onLinkOf h = s.onLinkOf h) (fun _ _ e => (State.onLinkOf_enter n _).trans e)
    (fun _ _ e => (State.onLinkOf_recordAdmission _ _ _ _).trans e) (fun _ _ _ e => (State.onLinkOf_sendGrant n _ _).trans e) rfl

/-! ## Settling -/

/-- A head that does not ask is left by the re-examination. -/
theorem State.onLinkOf_reexamine {s : State} {h : HeadId} (a : (s.head h).asks = false) :
    s.reexamine.onLinkOf h = s.onLinkOf h := by
  unfold State.reexamine
  cases h with
  | one =>
    have a' : s.head1.asks = false := a
    rw [a']
    split
    · rename_i e _; exact absurd e (by simp)
    · rename_i e _; exact absurd e (by simp)
    · exact State.onLinkOf_serve (by simp)
    · rfl
  | two =>
    have a' : s.head2.asks = false := a
    rw [a']
    split
    · rename_i e; exact absurd e (by simp)
    · exact State.onLinkOf_serve (by simp)
    · rename_i e; exact absurd e (by simp)
    · rfl

@[simp] theorem State.onLinkOf_beginOrder (s : State) (g : Group) (o : Order) (h : HeadId) :
    (s.beginOrder g o).onLinkOf h = s.onLinkOf h := by
  unfold State.beginOrder
  simp only
  split <;> simp [State.reportBegun]

@[simp] theorem State.onLinkOf_holdGroup (s : State) (g : Group) (r : HoldReason) (h : HeadId) :
    (s.holdGroup g r).onLinkOf h = s.onLinkOf h := by simp [State.holdGroup]

@[simp] theorem State.onLinkOf_beginIndex (s : State) (n : Nat) (h : HeadId) : (s.beginIndex n).onLinkOf h = s.onLinkOf h := by
  simp [State.beginIndex, State.windowIndexing]

@[simp] theorem State.onLinkOf_examineInput (s : State) (h : HeadId) : s.examineInput.onLinkOf h = s.onLinkOf h := by
  unfold State.examineInput
  repeat' split
  all_goals simp

@[simp] theorem State.onLinkOf_examineTrack (s : State) (h : HeadId) : s.examineTrack.onLinkOf h = s.onLinkOf h := by
  unfold State.examineTrack
  repeat' split
  all_goals simp [State.closeWindow]

@[simp] theorem State.onLinkOf_examineOutput (s : State) (h : HeadId) : s.examineOutput.onLinkOf h = s.onLinkOf h := by
  unfold State.examineOutput
  repeat' split
  all_goals simp

/-- The record of a head is the first part of its link. -/
theorem State.onLinkOf_head (s : State) (h : HeadId) : (s.onLinkOf h).1 = s.head h := by cases h <;> rfl

theorem State.onLinkOf_settleOne {s t : State} {h : HeadId} (a : (s.head h).asks = false) (e : s.settleOne = some t) :
    t.onLinkOf h = s.onLinkOf h := by
  unfold State.settleOne at e
  split at e
  · cases e
    have a' : (State.head { s with due := { s.due with arbiter := false } } h).asks = false := by cases h <;> exact a
    rw [State.onLinkOf_reexamine a', State.onLinkOf_due]
  · repeat' split at e
    all_goals first | (cases e; simp) | cases e

theorem State.onLinkOf_settleFor {h : HeadId} (n : Nat) {s : State} (a : (s.head h).asks = false) :
    (State.settleFor n s).onLinkOf h = s.onLinkOf h := by
  induction n generalizing s with
  | zero => rfl
  | succ n ih =>
    unfold State.settleFor
    split
    · rfl
    · rename_i t e
      have k := State.onLinkOf_settleOne a e
      have a' : (t.head h).asks = false := by rw [← State.onLinkOf_head, k, State.onLinkOf_head]; exact a
      rw [ih a', k]

@[simp] theorem State.onLinkOf_chooseOperation (s : State) (h : HeadId) : s.chooseOperation.onLinkOf h = s.onLinkOf h := by
  unfold State.chooseOperation
  split
  · rfl
  · split
    · simp
    · simp only
      split <;> simp
    · simp

/-- Settling leaves a head without a standing request: its record, and what was sent to it. -/
theorem State.onLinkOf_settle {s : State} {h : HeadId} (a : (s.head h).asks = false) :
    s.settle.onLinkOf h = s.onLinkOf h := by
  unfold State.settle State.settleEngine
  split
  · simp [State.onLinkOf_settleFor _ a]
  · exact State.onLinkOf_settleFor _ a

/-- Settling leaves the record of a head without a standing request. -/
theorem State.settle_head {s : State} {h : HeadId} (a : (s.head h).asks = false) : s.settle.head h = s.head h := by
  rw [← State.onLinkOf_head, State.onLinkOf_settle a, State.onLinkOf_head]

end Sys2Proof.Machine
end

