-- ==== Sys2Proof/Laws/Memory.lean ====
section
/-! SUPPORT. Frame memory: every operation keeps the canonical form, and what a pixel reads as afterwards (R152). -/

namespace Sys2Proof.Machine

/-- Nothing is listed: the canonical form holds from any address. -/
@[simp] theorem Memory.wfFrom_nil (least : Nat) : Memory.wfFrom least [] = true := rfl

/-- The canonical form of a listed pixel and the rest. -/
theorem Memory.wfFrom_cons {least k : Nat} {v : Byte} {rest : Memory} :
    Memory.wfFrom least ((k, v) :: rest) = true ↔
      least ≤ k ∧ k < pixelCount ∧ v ≠ 0 ∧ Memory.wfFrom (k + 1) rest = true := by
  simp [Memory.wfFrom, and_assoc]

/-- A lower least address is met too. -/
theorem Memory.wfFrom_mono {m : Memory} {a b : Nat} (hab : a ≤ b) (h : Memory.wfFrom b m = true) :
    Memory.wfFrom a m = true := by
  cases m with
  | nil => rfl
  | cons e rest => obtain ⟨k, v⟩ := e; rw [Memory.wfFrom_cons] at h ⊢; exact ⟨by omega, h.2⟩

/-- An entry put before a memory keeps the form. -/
theorem Memory.wfFrom_put {m : Memory} {a : Nat} (v : Byte) (ha : a < pixelCount)
    (h : Memory.wfFrom (a + 1) m = true) : Memory.wfFrom a (Memory.put a v m) = true := by
  unfold Memory.put
  split
  · exact Memory.wfFrom_mono (by omega) h
  · exact Memory.wfFrom_cons.2 ⟨le_refl a, ha, ‹_›, h⟩

/-- A run of pixels written keeps the form. -/
theorem Memory.wfFrom_paintRun (g : Nat → Byte → Byte) {n a : Nat} {m : Memory} (hn : n = 0 ∨ a + n ≤ pixelCount)
    (h : Memory.wfFrom a m = true) : Memory.wfFrom a (Memory.paintRun g n a m) = true := by
  induction n generalizing a m with
  | zero => simpa [Memory.paintRun] using h
  | succ n ih =>
    have hb : a < pixelCount ∧ (n = 0 ∨ a + 1 + n ≤ pixelCount) := by omega
    cases m with
    | nil => exact Memory.wfFrom_put _ hb.1 (ih hb.2 rfl)
    | cons e rest =>
      obtain ⟨k, v⟩ := e
      have hk := Memory.wfFrom_cons.1 h
      simp only [Memory.paintRun]
      split
      · subst k; exact Memory.wfFrom_put _ hb.1 (ih hb.2 hk.2.2.2)
      · exact Memory.wfFrom_put _ hb.1 (ih hb.2 (Memory.wfFrom_cons.2 ⟨by omega, hk.2⟩))

/-- Pixels written from an address on keep the form. -/
theorem Memory.wfFrom_paint (g : Nat → Byte → Byte) {least a n : Nat} {m : Memory} (hl : least ≤ a)
    (h : Memory.wfFrom least m = true) : Memory.wfFrom least (Memory.paint g a n m) = true := by
  have hn : min n (pixelCount - a) = 0 ∨ a + min n (pixelCount - a) ≤ pixelCount := by omega
  induction m generalizing least with
  | nil => exact Memory.wfFrom_mono hl (Memory.wfFrom_paintRun g hn rfl)
  | cons e rest ih =>
    obtain ⟨k, v⟩ := e
    have hk := Memory.wfFrom_cons.1 h
    simp only [Memory.paint]
    split
    · exact Memory.wfFrom_cons.2 ⟨hk.1, hk.2.1, hk.2.2.1, ih (by omega) hk.2.2.2⟩
    · exact Memory.wfFrom_mono hl
        (Memory.wfFrom_paintRun g hn (Memory.wfFrom_cons.2 ⟨by omega, hk.2⟩))

/-- A rectangle written keeps frame memory canonical. -/
theorem Memory.wf_paintRows (g : Nat → Byte → Byte) (x width rows y : Nat) {m : Memory} (h : Memory.wf m = true) :
    Memory.wf (Memory.paintRows g x width rows y m) = true := by
  induction rows generalizing y m with
  | zero => exact h
  | succ rows ih => exact ih _ (Memory.wfFrom_paint g (Nat.zero_le _) h)

/-- The cleared frame memory is canonical. -/
theorem Memory.wf_nil : Memory.wf [] = true := rfl

/-- A pixel below the least listed one reads as 0. -/
theorem Memory.read_below {m : Memory} {a b : Nat} (h : Memory.wfFrom a m = true) (hb : b < a) :
    Memory.read m b = 0 := by
  induction m generalizing a with
  | nil => rfl
  | cons e rest ih =>
    obtain ⟨k, v⟩ := e
    have hk := Memory.wfFrom_cons.1 h
    simp only [Memory.read, if_neg (show k ≠ b by omega)]
    exact ih hk.2.2.2 (by omega)

/-- What a pixel reads as with an entry put before the rest. -/
theorem Memory.read_put {m : Memory} {a : Nat} (v : Byte) (h : Memory.wfFrom (a + 1) m = true) (b : Nat) :
    Memory.read (Memory.put a v m) b = if b = a then v else Memory.read m b := by
  unfold Memory.put
  by_cases hv : v = 0
  · simp only [hv, if_true]
    split
    · subst b; exact Memory.read_below h (Nat.lt_succ_self a)
    · rfl
  · simp only [hv, if_false, Memory.read, eq_comm]

/-- What a pixel reads as after a run is written. -/
theorem Memory.read_paintRun (g : Nat → Byte → Byte) {n a : Nat} {m : Memory} (hn : n = 0 ∨ a + n ≤ pixelCount)
    (h : Memory.wfFrom a m = true) (b : Nat) :
    Memory.read (Memory.paintRun g n a m) b =
      if a ≤ b ∧ b < a + n then g b (Memory.read m b) else Memory.read m b := by
  induction n generalizing a m with
  | zero => simp [Memory.paintRun, show ¬(a ≤ b ∧ b < a) by omega]
  | succ n ih =>
    have hb : a < pixelCount ∧ (n = 0 ∨ a + 1 + n ≤ pixelCount) := by omega
    cases m with
    | nil =>
      simp only [Memory.paintRun]
      rw [Memory.read_put _ (Memory.wfFrom_paintRun g hb.2 rfl), ih hb.2 rfl]
      by_cases hab : b = a
      · subst b; simp [Memory.read]
      · simp only [hab, if_false, show (a + 1 ≤ b ∧ b < a + 1 + n) ↔ (a ≤ b ∧ b < a + (n + 1)) by omega]
    | cons e rest =>
      obtain ⟨k, v⟩ := e
      have hk := Memory.wfFrom_cons.1 h
      simp only [Memory.paintRun]
      split
      · subst k
        rw [Memory.read_put _ (Memory.wfFrom_paintRun g hb.2 hk.2.2.2), ih hb.2 hk.2.2.2]
        by_cases hab : b = a
        · subst b; simp [Memory.read]
        · simp only [hab, if_false, Memory.read, if_neg (Ne.symm hab),
            show (a + 1 ≤ b ∧ b < a + 1 + n) ↔ (a ≤ b ∧ b < a + (n + 1)) by omega]
      · have hw : Memory.wfFrom (a + 1) ((k, v) :: rest) = true := Memory.wfFrom_cons.2 ⟨by omega, hk.2⟩
        rw [Memory.read_put _ (Memory.wfFrom_paintRun g hb.2 hw), ih hb.2 hw]
        by_cases hab : b = a
        · subst b
          simp [Memory.read_below hw (Nat.lt_succ_self _)]
        · simp only [hab, if_false, show (a + 1 ≤ b ∧ b < a + 1 + n) ↔ (a ≤ b ∧ b < a + (n + 1)) by omega]

/-- What a pixel reads as after pixels are written from an address on: those written and in frame memory change, every
other reads as before. -/
theorem Memory.read_paint (g : Nat → Byte → Byte) {a n : Nat} {m : Memory} {least : Nat} (hl : least ≤ a)
    (h : Memory.wfFrom least m = true) (b : Nat) :
    Memory.read (Memory.paint g a n m) b =
      if a ≤ b ∧ b < a + n ∧ b < pixelCount then g b (Memory.read m b) else Memory.read m b := by
  have hn : min n (pixelCount - a) = 0 ∨ a + min n (pixelCount - a) ≤ pixelCount := by omega
  have hr : (a ≤ b ∧ b < a + min n (pixelCount - a)) ↔ (a ≤ b ∧ b < a + n ∧ b < pixelCount) := by omega
  induction m generalizing least with
  | nil => simp only [Memory.paint]; rw [Memory.read_paintRun g hn rfl]; simp only [hr]
  | cons e rest ih =>
    obtain ⟨k, v⟩ := e
    have hk := Memory.wfFrom_cons.1 h
    simp only [Memory.paint]
    split
    · simp only [Memory.read]
      by_cases hkb : k = b
      · subst k
        simp only [if_true]
        rw [if_neg (by omega)]
      · simp only [hkb, if_false]; exact ih (by omega) hk.2.2.2
    · have hw : Memory.wfFrom a ((k, v) :: rest) = true := Memory.wfFrom_cons.2 ⟨by omega, hk.2⟩
      rw [Memory.read_paintRun g hn hw]; simp only [hr]

/-- What a pixel reads as after rows are written: a pixel outside every row reads as before. -/
theorem Memory.read_paintRows_outside (g : Nat → Byte → Byte) (x width rows y : Nat) {m : Memory}
    (h : Memory.wf m = true) (b : Nat)
    (hb : ∀ r, y ≤ r → r < y + rows → ¬(pixelNumber x r ≤ b ∧ b < pixelNumber x r + width)) :
    Memory.read (Memory.paintRows g x width rows y m) b = Memory.read m b := by
  induction rows generalizing y m with
  | zero => rfl
  | succ rows ih =>
    simp only [Memory.paintRows]
    rw [ih (y + 1) (Memory.wfFrom_paint g (Nat.zero_le _) h) (fun r h1 h2 => hb r (by omega) (by omega)),
      Memory.read_paint g (Nat.zero_le _) h, if_neg]
    intro hc; exact hb y (le_refl y) (by omega) ⟨hc.1, hc.2.1⟩

end Sys2Proof.Machine
end

