-- ==== Sys2Proof/Laws/Units.lean ====
section
/-! SUPPORT. What acting on the announcements of a step leaves of the strip table: a unit that is not PENDING stays as it
is, and every strip keeps its id and its location (R7, R8, R9). -/

namespace Sys2Proof.Machine

/-! ## The table of strips -/

/-- A change that keeps each id, seen through the record of one id. -/
theorem State.strip_onStrip {s : State} {k : Nat} {f : Strip → Strip} (hf : ∀ r, (f r).id = r.id) (id : Nat) :
    (s.onStrip k f).strip id = if id = k then (s.strip id).map f else s.strip id := by
  simp only [State.onStrip, State.strip, findBy, updateBy]
  induction s.store.strips with
  | nil => simp
  | cons q l ih =>
    simp only [List.map_cons, List.find?_cons]
    have e : (if q.id = k then f q else q).id = q.id := by split <;> simp [hf]
    rw [e]
    by_cases h1 : q.id = id
    · simp only [h1, beq_self_eq_true]
      split <;> simp [*]
    · rw [beq_eq_false_iff_ne.2 h1]
      exact ih

/-- A change of one entry keeps the id of the strip. -/
theorem Strip.onEntry_id (r : Strip) (c w : Nat) (f : UnitEntry → UnitEntry) : (r.onEntry c w f).id = r.id := by
  unfold Strip.onEntry
  split <;> rfl

/-- Two positions of one grid have two places. -/
theorem Strip.place_inj {r : Strip} {c w c' w' : Nat} (h : r.holds c w = true) (h' : r.holds c' w' = true)
    (e : r.place c w = r.place c' w') : c = c' ∧ w = w' := by
  simp only [Strip.holds, Bool.and_eq_true, decide_eq_true_eq] at h h'
  simp only [Strip.place] at e
  obtain ⟨⟨⟨h1, h2⟩, h3⟩, h4⟩ := h
  obtain ⟨⟨⟨g1, g2⟩, g3⟩, g4⟩ := h'
  have hr : 0 < r.rows := by omega
  have m := congrArg (· % r.rows) e
  have d := congrArg (· / r.rows) e
  simp only [Nat.mul_comm _ r.rows, Nat.mul_add_mod, Nat.mul_add_div hr] at m d
  rw [Nat.mod_eq_of_lt (by omega), Nat.mod_eq_of_lt (by omega)] at m
  rw [Nat.div_eq_of_lt (by omega), Nat.div_eq_of_lt (by omega)] at d
  omega

/-- An entry after a change of an entry. -/
theorem Strip.entry_onEntry (r : Strip) (c w c' w' : Nat) (f : UnitEntry → UnitEntry) :
    (r.onEntry c w f).entry c' w' = if c' = c ∧ w' = w then (r.entry c' w').map f else r.entry c' w' := by
  unfold Strip.onEntry
  by_cases h : r.holds c w = true
  · rw [if_pos h]
    simp only [Strip.entry, show ∀ us : List UnitEntry, Strip.holds { r with units := us } c' w' = r.holds c' w' from fun _ => rfl]
    by_cases h' : r.holds c' w' = true
    · simp only [h', if_true, show ∀ us : List UnitEntry, Strip.place { r with units := us } c' w' = r.place c' w' from fun _ => rfl]
      rw [List.getElem?_modify]
      by_cases e : c' = c ∧ w' = w
      · obtain ⟨rfl, rfl⟩ := e; simp
      · have n : ¬ r.place c w = r.place c' w' := fun q => e ⟨(Strip.place_inj h h' q).1.symm, (Strip.place_inj h h' q).2.symm⟩
        simp [n, e]
    · simp [h']
  · rw [if_neg h]
    split
    · rename_i e; obtain ⟨rfl, rfl⟩ := e; simp [Strip.entry, h]
    · rfl

/-- The unit at a position after a change of an entry of a strip. -/
theorem State.unit_onEntry (s : State) (k c w : Nat) (f : UnitEntry → UnitEntry) (id c' w' : Nat) :
    (s.onStrip k fun r => r.onEntry c w f).unit id c' w' =
      if id = k ∧ c' = c ∧ w' = w then (s.unit id c' w').map f else s.unit id c' w' := by
  simp only [State.unit, State.strip_onStrip (f := fun r => r.onEntry c w f) (fun r => Strip.onEntry_id r c w f)]
  by_cases e : id = k
  · simp only [e, if_true, true_and]
    cases s.strip k with
    | none => simp
    | some r => simp [Strip.entry_onEntry]
  · simp [e]

/-- The table of strips alone decides every unit. -/
theorem State.unit_congr {s t : State} (h : t.store.strips = s.store.strips) (id c w : Nat) :
    t.unit id c w = s.unit id c w := by simp only [State.unit, State.strip, h]

/-! ## Unit state changes -/

/-- The unit at a position after a unit state change. -/
theorem State.unit_writeUnit (s : State) (k c w : Nat) (old new : UnitState) (f : Option FaultPart) (id c' w' : Nat) :
    (s.writeUnit k c w old new f).unit id c' w' =
      if id = k ∧ c' = c ∧ w' = w then (s.unit id c' w').map fun u => { u with state := new, fault := f }
      else s.unit id c' w' := by
  have h : (s.writeUnit k c w old new f).store.strips =
      (s.onStrip k fun r => { r.onEntry c w fun u => { u with state := new, fault := f } with
        counts := (r.counts.on old (· - 1)).on new (· + 1) }).store.strips := by
    have m : ∀ (s : State) p, (s.markPanels p).store.strips = s.store.strips := by
      intro s p; unfold State.markPanels; simp only; split <;> rfl
    unfold State.writeUnit
    simp only
    split <;> split <;> simp only [State.dueArbiter_frame, State.dueTrack_frame, State.markStrip, m, State.raise_frame]
  have e := fun id => State.strip_onStrip (s := s) (k := k)
    (f := fun r => { r.onEntry c w fun u => { u with state := new, fault := f } with
      counts := (r.counts.on old (· - 1)).on new (· + 1) }) (fun r => Strip.onEntry_id r _ _ _) id
  rw [State.unit_congr h]
  simp only [State.unit, e]
  by_cases d : id = k
  · simp only [d, if_true, true_and]
    cases s.strip k with
    | none => simp
    | some r =>
      simp only [Option.map_some, Option.bind_some]
      exact Strip.entry_onEntry r c w c' w' _
  · simp [d]

/-! ## What leaves the table of strips alone -/

@[simp] theorem State.strips_markPanels (s : State) (p : Panel → Bool) :
    (s.markPanels p).store.strips = s.store.strips := by
  unfold State.markPanels
  simp only
  split <;> rfl

@[simp] theorem State.strips_enter (s : State) (h : HeadId) (st : HeadState) :
    (s.enter h st).store.strips = s.store.strips := by
  unfold State.enter
  simp only [State.markHead]
  split <;> simp

@[simp] theorem State.strips_clearClaim (s : State) (h : HeadId) : (s.clearClaim h).store.strips = s.store.strips := by
  simp [State.clearClaim, State.markHead]

@[simp] theorem State.strips_goIdle (s : State) (h : HeadId) : (s.goIdle h).store.strips = s.store.strips := by
  simp [State.goIdle]

@[simp] theorem State.strips_enterSpark (s : State) (h : HeadId) (st : Step) :
    (s.enterSpark h st).store.strips = s.store.strips := by
  simp [State.enterSpark, State.inStep, State.sendSpark]

@[simp] theorem State.strips_enterSeek (s : State) (h : HeadId) (st : Step) (p : Point) :
    (s.enterSeek h st p).store.strips = s.store.strips := by
  simp [State.enterSeek, State.inStep]

@[simp] theorem State.strips_beginWire (s : State) (h : HeadId) : (s.beginWire h).store.strips = s.store.strips := by
  unfold State.beginWire
  split
  · simp only
    split
    · simp
    · split
      · simp
      · split
        · simp
        · split
          · split <;> split <;> simp
          · split <;> simp
  · rfl

/-- A fold of steps that leave the table of strips leaves it. -/
theorem State.strips_foldl {α : Type} (f : State → α → State)
    (hf : ∀ s a, (f s a).store.strips = s.store.strips) (l : List α) (s : State) :
    (l.foldl f s).store.strips = s.store.strips := by
  induction l generalizing s with
  | nil => rfl
  | cons a l ih => rw [List.foldl_cons, ih, hf]

@[simp] theorem State.strips_recordAdmission (s : State) (h : HeadId) (used : List Nat) :
    (s.recordAdmission h used).store.strips = s.store.strips := by
  unfold State.recordAdmission
  simp only [State.setAdmission_frame]
  exact State.strips_foldl (fun s id => s.onClass id fun c => { c with budget := c.budget - 1 }) (fun _ _ => rfl) _ _

@[simp] theorem State.strips_returnBudget (s : State) (id : Nat) : (s.returnBudget id).store.strips = s.store.strips := by
  unfold State.returnBudget
  repeat' split
  all_goals rfl

@[simp] theorem State.strips_undoAdmission (s : State) (h : HeadId) :
    (s.undoAdmission h).store.strips = s.store.strips := by
  unfold State.undoAdmission
  simp only [State.setAdmission_frame]
  exact State.strips_foldl _ State.strips_returnBudget _ _

/-! ## Operations at one unit leave every other -/

/-- Another unit than the one at a position of a strip. -/
def Elsewhere (k c w id c' w' : Nat) : Prop := ¬(id = k ∧ c' = c ∧ w' = w)

theorem State.unit_writePull {s : State} {k c w id c' w' : Nat} (n : Elsewhere k c w id c' w')
    (old new : Option PullPart) : (s.writePull k c w old new).2.unit id c' w' = s.unit id c' w' := by
  unfold State.writePull
  split
  · split
    · refine (State.unit_congr (State.strips_markPanels _ _) _ _ _).trans ?_
      rw [State.unit_onEntry, if_neg n]
    · rfl
  · rfl

theorem State.unit_issueTicket {s : State} {t : Ticket} {id c' w' : Nat}
    (n : Elsewhere t.strip t.column t.row id c' w') : (s.issueTicket t).unit id c' w' = s.unit id c' w' := by
  unfold State.issueTicket
  simp only
  split
  · exact (State.unit_congr (State.strips_markPanels _ _) _ _ _).trans (State.unit_writePull n _ _)
  · exact State.unit_writePull n _ _

theorem State.unit_sampleUnit {s : State} {h : HeadId} {r : Strip} {c w id c' w' : Nat}
    (n : Elsewhere r.id c w id c' w') : (s.sampleUnit h r c w).unit id c' w' = s.unit id c' w' := by
  unfold State.sampleUnit
  split
  · rfl
  · rename_i p _
    have k : ∀ (s : State) (i : Nat) f, (s.onSampling i f).unit id c' w' = s.unit id c' w' := fun _ _ _ => rfl
    simp only [k]
    split
    · split <;> rfl
    · split
      · split <;> rfl
      · split <;> split
        all_goals first | exact State.unit_writePull n _ _ | exact State.unit_issueTicket n

theorem State.unit_endAdmission {s : State} {h : HeadId} {k c w id c' w' : Nat} (n : Elsewhere k c w id c' w')
    (new : UnitState) : (s.endAdmission h k c w new).unit id c' w' = s.unit id c' w' := by
  have e : ∀ (s : State) a, (s.setAdmission h a).unit id c' w' = s.unit id c' w' := fun s a => by cases h <;> rfl
  unfold State.endAdmission
  simp only [e]
  split
  · split
    · rename_i r hr
      have hk : r.id = k := by simpa using List.find?_some hr
      exact State.unit_sampleUnit (hk ▸ n)
    · rfl
  · exact State.unit_congr (State.strips_foldl _ State.strips_returnBudget _ _) _ _ _

theorem State.unit_changeUnit {s : State} {k c w id c' w' : Nat} (n : Elsewhere k c w id c' w') (old new : UnitState)
    (f : Option FaultPart) : (s.changeUnit k c w old new f).unit id c' w' = s.unit id c' w' := by
  unfold State.changeUnit
  simp only
  split
  · rw [State.unit_endAdmission n, State.unit_writeUnit, if_neg n]
  · rw [State.unit_writeUnit, if_neg n]

theorem State.unit_bondUnit {s : State} {h : HeadId} {c : Claim} {id c' w' : Nat}
    (n : Elsewhere c.strip c.column c.row id c' w') : (s.bondUnit h c).unit id c' w' = s.unit id c' w' := by
  have a : ∀ (s : State) f, (s.onHead h f).unit id c' w' = s.unit id c' w' := fun s a => by cases h <;> rfl
  have b : (s.reportBonded h c.strip c.column c.row).2.unit id c' w' = s.unit id c' w' := by
    unfold State.reportBonded
    split
    · exact State.unit_changeUnit n _ _ _
    · rfl
  unfold State.bondUnit
  simp only
  rw [State.unit_congr (State.strips_clearClaim _ _), a, State.onStats, a]
  split
  · exact b
  · rw [State.stray, State.onStats, a, b]

/-- Claiming a unit leaves every other. -/
theorem State.unit_claimUnit {s : State} {h : HeadId} {i : Nat} {p : Pos} {id c' w' : Nat}
    (n : Elsewhere i p.column p.row id c' w') : (s.claimUnit h i p).unit id c' w' = s.unit id c' w' := by
  rw [State.claimUnit, State.unit_onEntry, if_neg n, State.unit_writeUnit, if_neg n]

theorem State.unit_handOver {s : State} {h : HeadId} {i : Nat} {p : Pos} {id c' w' : Nat}
    (n : Elsewhere i p.column p.row id c' w') : (s.handOver h i p).unit id c' w' = s.unit id c' w' := by
  have a : ∀ (s : State) f, (s.onHead h f).unit id c' w' = s.unit id c' w' := fun s a => by cases h <;> rfl
  unfold State.handOver State.beginUnit
  simp only
  split
  · rw [State.unit_congr (State.strips_goIdle _ _), State.unit_bondUnit n, State.unit_congr (State.strips_enter _ _ _), a]
  · rw [State.unit_congr (State.strips_beginWire _ _), State.unit_congr (State.strips_enter _ _ _), a]

theorem State.unit_reportClaimEnd {s : State} {h : HeadId} {i c w wire : Nat} {k : FaultKind} {b : Bool}
    {id c' w' : Nat} (n : Elsewhere i c w id c' w') :
    (s.reportClaimEnd h i c w wire k b).2.unit id c' w' = s.unit id c' w' := by
  unfold State.reportClaimEnd
  repeat' split
  all_goals first | rfl | exact State.unit_changeUnit n _ _ _

/-- A grant leaves every unit that is not PENDING. -/
theorem State.unit_sendGrant {s : State} {h : HeadId} {i : Nat} {p : Pos} {id c w : Nat} {u : UnitEntry}
    (hu : s.unit id c w = some u) (n : u.state ≠ .pending) : (s.sendGrant h i p).2.unit id c w = some u := by
  unfold State.sendGrant
  split
  · exact (State.unit_congr (State.strips_undoAdmission _ _) _ _ _).trans hu
  · split
    · exact (State.unit_congr (State.strips_undoAdmission _ _) _ _ _).trans hu
    · rename_i t
      have e : Elsewhere i p.column p.row id c w := fun q => by
        obtain ⟨rfl, rfl, rfl⟩ := q
        simp only [State.takesGrant, hu, Bool.not_eq_true', Bool.not_eq_false, Bool.and_eq_true, Option.any_some] at t
        exact n (by simpa using t.2)
      simp only
      split
      · rw [State.unit_handOver e, State.unit_claimUnit e, hu]
      · rw [State.unit_reportClaimEnd e, State.unit_claimUnit e, hu]

/-! ## Settling leaves a unit that is not PENDING -/

/-- A decision to grant is for a strip of the table that lies in WINDOW, under a class gate that passes. -/
theorem State.decision_window {s : State} {h : HeadId} {r : Strip} {p : Pos} (d : s.decision h = .granted r p) :
    s.strip r.id = some r ∧ r.location = .window ∧ s.classGate r.id = true := by
  have e : s.windowStrip = some r ∧ s.classGate r.id = true := by
    unfold State.decision at d
    repeat' split at d
    all_goals first | (cases d; exact ⟨by assumption, by simp_all⟩) | cases d
  refine ⟨?_, ?_, e.2⟩
  all_goals
    have h1 := e.1
    unfold State.windowStrip at h1
    split at h1
    · rename_i q hq
      split at h1
      · cases h1
        first
        | assumption
        | cases hw : s.feed.window with
          | none => rw [hw] at hq; simp at hq
          | some k =>
            rw [hw] at hq
            have hk : r.id = k := by simpa using List.find?_some (show s.strip k = some r from hq)
            rw [hk]; exact hq
      · cases h1
    · cases h1

/-- A decision grants only a PENDING unit of the table. -/
theorem State.decision_pending {s : State} {h : HeadId} {r : Strip} {p : Pos} (d : s.decision h = .granted r p) :
    ∃ u, s.unit r.id p.column p.row = some u ∧ u.state = .pending := by
  have e : s.firstCandidate h r = some p := by
    have d' := d
    unfold State.decision at d'
    repeat' split at d'
    all_goals first | (cases d'; assumption) | cases d'
  have hp := List.find?_some e
  simp only [State.isCandidate, Bool.and_eq_true, Option.any_eq_true] at hp
  obtain ⟨_, u, hu, hpend⟩ := hp
  exact ⟨u, by simp [State.unit, (State.decision_window d).1, hu], by simpa using hpend⟩

theorem State.unit_serve {s : State} {h : HeadId} {id c w : Nat} {u : UnitEntry} (hu : s.unit id c w = some u)
    (n : u.state ≠ .pending) : (s.serve h).2.unit id c w = some u :=
  State.serve_keeps (fun t => t.unit id c w = some u)
    (fun _ _ e => (State.unit_congr (State.strips_enter _ _ _) _ _ _).trans e)
    (fun _ _ e => (State.unit_congr (State.strips_recordAdmission _ _ _) _ _ _).trans e)
    (fun _ _ _ e => State.unit_sendGrant e n) hu

/-- A decision to grant, for a head that asks, is carried out: the claim is admitted, the unit claimed, and the claim
context handed over (R66, R71). -/
theorem State.serve_granted {s : State} {h : HeadId} {r : Strip} {p : Pos} (d : s.decision h = .granted r p)
    (a : (s.head h).asks = true) :
    s.serve h =
      (true, ((s.recordAdmission h (s.copyOfStrip r.id).classesUsed).claimUnit h r.id p).handOver h r.id p) := by
  obtain ⟨hs, hl, hg⟩ := State.decision_window d
  obtain ⟨u, hu, hp⟩ := State.decision_pending d
  have heads : ∀ t : State, t.onLinkOf h = s.onLinkOf h → (t.head h).asks = true := fun t e => by
    rw [← State.onLinkOf_head, e, State.onLinkOf_head]; exact a
  have hst : (s.recordAdmission h (s.copyOfStrip r.id).classesUsed).store.strips = s.store.strips := State.strips_recordAdmission _ _ _
  have takes : (s.recordAdmission h (s.copyOfStrip r.id).classesUsed).takesGrant r.id p = true := by
    simp only [State.takesGrant, State.strip, hst, State.unit_congr hst]
    simp only [show findBy Strip.id r.id s.store.strips = some r from hs, hu, hl, hp, Option.any_some, beq_self_eq_true,
      Bool.and_self]
  have sent : (s.recordAdmission h (s.copyOfStrip r.id).classesUsed).sendGrant h r.id p =
      (.taken, ((s.recordAdmission h (s.copyOfStrip r.id).classesUsed).claimUnit h r.id p).handOver h r.id p) := by
    have a1 := heads _ (State.onLinkOf_recordAdmission s h (s.copyOfStrip r.id).classesUsed h)
    have a2 := heads ((s.recordAdmission h (s.copyOfStrip r.id).classesUsed).claimUnit h r.id p) (by simp [State.claimUnit])
    simp [State.sendGrant, a1, a2, takes]
  unfold State.serve State.serveFor
  rw [d]
  simp only [State.admitClaim, show ((s.copyOfStrip r.id).classesUsed.all s.classPasses) = true from hg, if_true, sent]

theorem State.unit_reexamine {s : State} {id c w : Nat} {u : UnitEntry} (hu : s.unit id c w = some u)
    (n : u.state ≠ .pending) : s.reexamine.unit id c w = some u := by
  unfold State.reexamine
  split
  · exact State.unit_serve (s := (s.serve _).2) (State.unit_serve hu n) n
  · exact State.unit_serve hu n
  · exact State.unit_serve hu n
  · exact hu

/-- Sending an order leaves every unit. -/
theorem State.unit_beginOrder (s : State) (g : Group) (o : Order) (id c w : Nat) :
    (s.beginOrder g o).unit id c w = s.unit id c w := by
  have k : ∀ (s : State) k, (s.reportBegun k).unit id c w = s.unit id c w := by
    intro s k
    have e := fun id => State.strip_onStrip (s := s) (k := k)
      (f := fun r => if r.location.onTrack then { r with inMotion := true } else r) (fun r => by split <;> rfl) id
    simp only [State.reportBegun, State.unit, e]
    split
    · cases s.strip id with
      | none => rfl
      | some r => simp only [Option.map_some, Option.bind_some]; split <;> rfl
    · rfl
  have m : ∀ (s : State) g x, (s.setGroup g x).unit id c w = s.unit id c w := fun s g x => by cases g <;> rfl
  unfold State.beginOrder
  simp only
  split
  · rw [k, m]; rfl
  · rw [m]; rfl

theorem State.unit_examineInput (s : State) (id c w : Nat) : s.examineInput.unit id c w = s.unit id c w := by
  unfold State.examineInput
  repeat' split
  all_goals rfl

theorem State.unit_examineOutput (s : State) (id c w : Nat) : s.examineOutput.unit id c w = s.unit id c w := by
  unfold State.examineOutput
  repeat' split
  all_goals first | rfl | exact State.unit_beginOrder _ _ _ _ _ _

theorem State.unit_examineTrack (s : State) (id c w : Nat) : s.examineTrack.unit id c w = s.unit id c w := by
  unfold State.examineTrack
  repeat' split
  all_goals first | rfl | exact State.unit_beginOrder _ _ _ _ _ _

/-- Settling leaves a unit that is not PENDING as it is. -/
theorem State.settle_unit {s : State} {id c w : Nat} {u : UnitEntry} (hu : s.unit id c w = some u)
    (n : u.state ≠ .pending) : s.settle.unit id c w = some u := by
  have one : ∀ {s t : State}, s.unit id c w = some u → s.settleOne = some t → t.unit id c w = some u := by
    intro s t hu e
    unfold State.settleOne at e
    repeat' split at e
    · cases e; exact State.unit_reexamine (s := { s with due := _ }) hu n
    · cases e; exact (State.unit_examineTrack _ _ _ _).trans hu
    · cases e; exact (State.unit_examineInput _ _ _ _).trans hu
    · cases e; exact (State.unit_examineOutput _ _ _ _).trans hu
    · cases e
  have all : ∀ k (s : State), s.unit id c w = some u → (State.settleFor k s).unit id c w = some u := by
    intro k
    induction k with
    | zero => exact fun _ h => h
    | succ k ih =>
      intro s hu
      unfold State.settleFor
      split
      · exact hu
      · exact ih _ (one hu ‹_›)
  have ch : ∀ s : State, s.chooseOperation.store.strips = s.store.strips := by
    intro s
    unfold State.chooseOperation
    split
    · rfl
    · split
      · rfl
      · simp only; split <;> rfl
      · rfl
  unfold State.settle State.settleEngine
  split
  · exact (State.unit_congr (ch _) _ _ _).trans (all _ _ hu)
  · exact all _ _ hu

end Sys2Proof.Machine
end

