-- ==== Sys2Proof/Machine/Receivers.lean ====
section
/-! DEFINITION. The receivers: the bytes that arrive on a port of the machinery make frames, and each frame that is an
event joins the commands that wait (R188, log 18); a transaction of the record link is the command its bytes spell (R174,
R185). -/

namespace Sys2Proof.Machine

/-- A port of the machinery that the part receives on. -/
inductive Port
  | head (h : HeadId) | track | heater | touch
deriving DecidableEq, Repr

/-- The bytes of the frame in progress on a port. -/
def State.receiver (s : State) : Port → List Byte
  | .head .one => s.receivers.head1
  | .head .two => s.receivers.head2
  | .track => s.receivers.track
  | .heater => s.receivers.heater
  | .touch => s.receivers.touch

/-- Writes the bytes of the frame in progress on a port. -/
def State.setReceiver (s : State) (p : Port) (bs : List Byte) : State :=
  { s with receivers :=
      match p with
      | .head .one => { s.receivers with head1 := bs }
      | .head .two => { s.receivers with head2 := bs }
      | .track => { s.receivers with track := bs }
      | .heater => { s.receivers with heater := bs }
      | .touch => { s.receivers with touch := bs } }

/-- The event a whole frame of a port is; none for one that is discarded without a count. A heater frame that is
discarded is counted, so it is the unreadable READING (R105, R188). -/
def frameEvent : Port → List Byte → Option Instr
  | .head h, frame => headEvent h frame
  | .track, frame => trackEvent frame
  | .heater, frame => some (.reading (heaterFrame frame))
  | .touch, frame => touchEvent frame

/-- The frame in progress has as many bytes as its length byte gives. -/
def frameWhole : List Byte → Bool
  | start :: len :: rest => decide (len.toNat ≤ (start :: len :: rest).length)
  | _ => false

/-- A receiver takes a byte: the bytes of the frame then in progress, and the frame when it is whole. Outside a frame
every byte but 7Eh is discarded; a frame takes the number of bytes its length gives, whether or not that length is one
of 4 to 32 (R188). -/
def receiveByte (bs : List Byte) (b : Byte) : List Byte × Option (List Byte) :=
  match bs with
  | [] => (if b = 0x7E then [b] else [], none)
  | bs => if frameWhole (bs ++ [b]) then ([], some (bs ++ [b])) else (bs ++ [b], none)

/-- A byte arrives on a port: the frame it completes, when it is an event, joins the commands that wait (R188, log 18).
-/
def State.arrive (s : State) (p : Port) (b : Byte) : State :=
  let (bs, frame) := receiveByte (s.receiver p) b
  let s := s.setReceiver p bs
  { s with pending := s.pending ++ (frame.bind (frameEvent p)).toList }

/-- Bytes arrive on a port one after another. -/
def State.arriveAll (s : State) (p : Port) (bs : List Byte) : State := bs.foldl (fun s b => s.arrive p b) s

/-! ## The record link -/

/-- The command that the whole bytes of a transaction spell, the first of them its type: a REQUEST is the request its
frame spells or a BAD_FRAME, a READ clocks the bytes that follow its type, and any other type is an UNKNOWN_TRANSACTION.
A transaction in which no whole byte was clocked is none (R174, R178, R185). A frame that arrives during PROCESSING is
an overrun whatever it spells (R176). -/
def commandOfTransaction : List Byte → Option Instr
  | [] => none
  | first :: rest =>
    match transactionType first with
    | .request => some ((requestOfFrame rest).getD (.badFrame rest))
    | .read => some (.read rest.length)
    | .unknown => some (.unknownTransaction first)

/-- A transaction of the record link ends: its command joins the commands that wait (R174, log 18). -/
def State.transaction (s : State) (bytes : List Byte) : State :=
  { s with pending := s.pending ++ (commandOfTransaction bytes).toList }

end Sys2Proof.Machine
end

