-- ==== Sys2Proof/Tests/Slice0.lean ====
section
/-! SUPPORT. Our own tests: ill-formed commands refused, the manual's worked cases, frames written out byte by byte, and
for every statement with hypotheses a state and operands that meet them. -/

open Sys2Proof Sys2Proof.Machine Sys2Proof.Safety

namespace Sys2Proof.Tests

/-! ## Small states -/

/-- The next state of an outcome; the reset state for any other, which no command has. -/
def after (o : Outcome) : State :=
  match o with
  | .next t => t
  | _ => .reset

/-- A point, a bond set and a wire of class 1 within the units of `copy`. -/
def point : Point := { x := 100, y := 200, z := 30 }
def bondSet : BondSet := { power := 400, force := 40, time := 80 }
def wire : Wire :=
  { cls := 1, first := point, second := point, loop := 1, firstBond := bondSet, secondBond := bondSet, tail := 150,
    bump := none }
def noFilter : Filter := { value := 0, mask := 0, enabled := false }
def copy : ProgramCopy :=
  { name := [65], columns := 2, rows := 1, pitchX := 1000, pitchY := 0, soak := 5,
    plan := { period := 1, offset := 0, run := 1 }, filter1 := noFilter, filter2 := noFilter, filter3 := noFilter,
    filter4 := noFilter, wires := [wire] }
def program : Program := { id := 1, generation := 65535, active := copy, staged := none }
def settings : ClassSettings :=
  { pMin := 300, pMax := 600, fMin := 30, fMax := 80, trim := -2, trimStep := 5, missPolicy := .stop, pullMin := 300,
    watchLevel := 370, shift := 2, bandWidth := 20, provingUnits := 3, resultsRequired := 4, recovery := 2 }
def wireClass (st : ClassState) : WireClass := { newClass 1 settings with state := st }

/-- A unit in a state, and a strip of two such units of program 1 at a place. -/
def unitIn (st : UnitState) : UnitEntry := { state := st, wiresDone := 0, fault := none, pull := none }
def strip (loc : Location) (u : UnitEntry) : Strip :=
  { id := 1, lot := 7, slot := 1, program := 1, generation := some 0, location := loc, inMotion := false,
    nextColumn := 3, columns := 2, rows := 1, units := [u, u],
    counts := { skip := 0, pending := 0, claimed := 0, bonded := 0, fault := 0, rework := 0, reject := 0 } }

/-- A part with one program, one class, and one strip of two units. -/
def stocked (loc : Location) (u : UnitEntry) : State :=
  { State.reset with
    store := { strips := [strip loc u], nextStrip := 2, lot := 7, program := 1 }
    programs := [program]
    quality := { Quality.reset with classes := [wireClass .qualified] } }

/-- A claim of unit (1,1) of strip 1 at its only wire. -/
def claim : Claim := { strip := 1, column := 1, row := 1, wireCount := 1, wire := 1, touched := false, proving := [] }

/-- Head 1 in a state and step with that claim, its unit CLAIMED and one wire done. -/
def headIn (st : HeadState) (step : Option Step) : State :=
  (stocked .window { unitIn (.claimed .one) with wiresDone := 1 }).setHead .one
    { Head.reset with
      state := st, step, claim := some claim, resume := some { wire := 1, entry := .start }, ball := true,
      stepTimer := some 50, stopTimer := some 100 }

/-- Head 1 BONDING in a step. -/
def bonding (step : Step) : State := headIn .bonding (some step)

/-- Head 1 in a state without a claim. -/
def freeHead (st : HeadState) : State := State.reset.setHead .one { Head.reset with state := st }

/-- A request in process, its answer given. -/
def processing : State :=
  { State.reset with link := { Link.reset with
      request := some { tag := 1, kind := 1, code := 1, answer := some (plain .ok) } } }

/-- A response placed. -/
def answeredPart : State :=
  { State.reset with link := { Link.reset with
      response := some { answer := plain .ok, overrun := false, tag := 1, kind := 4, code := 1, flags := 0 } } }

/-- A group with an order in flight. -/
def busyGroup (g : Group) (o : Order) : State :=
  State.reset.setGroup g { state := .busy o, jammed := none, timer := some 5, limit := 5000 }

/-- A ticket for wire 1 of class 1 on unit (1,1) of strip 1, and a part that holds it. -/
def ticket : Ticket :=
  { number := 4294967295, strip := 1, column := 1, row := 1, program := 1, generation := 0, kind := .plan,
    wires := [{ wire := 1, cls := 1, reported := false }, { wire := 2, cls := 1, reported := true }],
    serial := 0, count := 2, head := .one, remaining := 4 }
def ticketed : State :=
  let s := stocked .departed { unitIn .bonded with pull := some (.ticketed .pending 4294967295) }
  { s with quality := { s.quality with tickets := [ticket] } }

/-- The same ticket with no wire reported. -/
def openTicket : Ticket := { ticket with wires := ticket.wires.map fun e => { e with reported := false } }

/-- A panel of a kind on the whole screen, and a part that shows it alone. -/
def panel (kind : PanelKind) : Panel :=
  { number := 15, kind, x := 0, y := 0, width := 800, height := 480, background := 0, foreground := 1, blink := false,
    period := 8, visible := true, text := [] }
def showing (kind : PanelKind) : State :=
  { State.reset with screen := { Screen.reset with
      active := [{ panel := panel kind, canvasCleared := true, counter := 0 }], staged := [panel kind] } }

/-- What a render of that panel draws as a CANVAS. -/
def blankPicture : Picture := { panel := panel .canvas, lines := [], cells := [] }

/-! ## Ill-formed commands -/

theorem test_tag_of_two_bytes : (Instr.look 256 (.cell 0)).wellFormed = false := by decide
theorem test_strip_key_of_five_bytes : (Instr.look 0 (.strip 4294967296)).wellFormed = false := by decide
theorem test_take_of_head_is_its_own_row : (Instr.take 0 (.head 1)).wellFormed = false := by decide
theorem test_type_byte_of_request_is_known : (Instr.unknownTransaction 0x5A).wellFormed = false := by decide
theorem test_whole_frame_is_no_bad_frame :
    (Instr.badFrame [0, 7, 1, 9, 1, 0, 0xEE]).wellFormed = false := by decide
theorem test_locked_panel_write_below_16 : (Instr.writeLocked 0 (.panelPut 15)).wellFormed = false := by decide
theorem test_panel_number_16_is_locked_write : (Instr.retirePanel 0 16).wellFormed = false := by decide
theorem test_panel_of_wide_binding :
    (Instr.amendPanel 0 1 [.binding { form := 256, value := 0 }]).wellFormed = false := by decide
theorem test_field_named_twice : (Instr.amendLoop 0 1 [.height 250, .height 300]).wellFormed = false := by decide
theorem test_class_field_named_twice : (Instr.amendClass 0 1 [.pMin 1, .pMin 2]).wellFormed = false := by decide
theorem test_head_field_named_twice : (Instr.amendHead 0 1 [.life 1, .life 2]).wellFormed = false := by decide
theorem test_wire_with_wide_class : (Instr.putWire 0 1 1 { wire with cls := 256 }).wellFormed = false := by decide
theorem test_trim_below_one_byte : (Instr.amendClass 0 1 [.trim (-129)]).wellFormed = false := by decide
theorem test_map_position_of_two_bytes :
    (Instr.putInslot 0 1 (some [{ column := 256, row := 1 }]) none).wellFormed = false := by decide
theorem test_character_of_two_bytes : (Instr.amendProgram 0 1 [.name [256]]).wellFormed = false := by decide
theorem test_filter_of_three_bytes :
    (Instr.amendProgram 0 1 [.filter1 { noFilter with mask := 65536 }]).wellFormed = false := by decide
theorem test_mixed_amend_needs_two_owners :
    (Instr.amendCellMixed 0 0 [.missRun 3]).wellFormed = false := by decide
theorem test_named_shape_is_not_unknown : (Instr.draw 0 1 1 (.unknown 6)).wellFormed = false := by decide
theorem test_fault_code_of_two_bytes : (Instr.driveFault .one 256).wellFormed = false := by decide
theorem test_temperature_of_three_bytes : (Instr.reading (.temperature 65536)).wellFormed = false := by decide
theorem test_well_formed_look : (Instr.look 255 (.strip 4294967295)).wellFormed = true := by decide

/-! ## Frames and words -/

/-- No row of the table gives bits. -/
theorem test_no_word_spells_a_command : decodeTableWord 8 0x5A = none := rfl

/-- R185: AMEND CELL, clearance 1, tag 1: length 9, kind 4, tag 1, table 1, key 0, field 13, value 1, check. -/
theorem test_amend_cell_frame :
    requestOfFrame [0, 9, 4, 1, 1, 0, 13, 1, 0xE3] = some (.amendCellWindow 1 0 [.clearance 1]) := by decide

/-- R180, R185: clearance 2 and due count 6 name two owners. -/
theorem test_mixed_amend_frame :
    requestOfFrame [0, 11, 4, 3, 1, 0, 13, 2, 15, 6, 0xC9] =
      some (.amendCellMixed 3 0 [.arbiter (.clearance 2), .dueCount 6]) := by decide

/-- R185: ACT HOLD of head 2, tag 5: action code 10. -/
theorem test_hold_frame : requestOfFrame [0, 7, 7, 5, 10, 2, 0xE1] = some (.hold 5 2) := by decide

/-- R188: READING with TEMPERATURE 393. -/
theorem test_reading_frame : heaterFrame [0x7E, 7, 0x81, 1, 1, 0x89, 0x6F] = .temperature 393 := by decide

/-- R188: DRIVE_FAULT with code 17. -/
theorem test_drive_fault_frame : headEvent .one [0x7E, 5, 0x89, 17, 0xE3] = some (.driveFault .one 17) := by decide

/-- R186: the response to that AMEND, status OK with the overrun mark, no flag. -/
theorem test_response_bytes :
    Response.bytes { answer := plain .ok, overrun := true, tag := 1, kind := 4, code := 1, flags := 0 } =
      [0xC3, 0, 11, 0, 1, 1, 4, 1, 0, 0, 0x2B] := by decide

/-- R187: ACCEPTED with the over-scale mark. -/
theorem test_verdict_byte : (Verdict.accepted true).byte = 0x80 := by decide

/-! ## The worked cases of the manual -/

/-- Chapter 6, worked cases 1 and 2, and the second bond of case 3. -/
def capillary (n kF : Nat) : Capillary :=
  { serial := 0, life := 1000000, count := n, interval := 5000, wearCap := 12, kP := 6, kF }
def heated (t : Nat) (g : Gate) : Heater := { Heater.reset with lastTemperature := some t, gate := g }
def gained : Cell := { Cell.reset with gain := 20 }
def powers (k : Computation) : Nat × Int × Nat × Nat × Int × Nat := (k.w, k.d, k.p1, k.p2, k.p3, k.power)
def forces (k : Computation) : Nat × Nat × Nat × Bool × Bool := (k.f1, k.force, k.time, k.clamp, k.excursion)

theorem test_settings_case_1 :
    let k := compute .first 12 claim { power := 420, force := 45, time := 80 } (capillary 36500 1) settings
      (heated 393 .pass) gained
    powers k = (7, 7, 462, 478, 468, 468) ∧ forces k = (52, 52, 80, false, false) := by decide

theorem test_settings_case_2 :
    let k := compute .first 1 claim { power := 590, force := 60, time := 150 } (capillary 71340 2)
      { settings with trim := 2 } (heated 390 .pass) gained
    powers k = (12, 10, 662, 694, 704, 600) ∧ forces k = (84, 80, 150, true, false) := by decide

theorem test_settings_case_3 :
    let k := compute .second 12 claim { power := 300, force := 40, time := 60 } (capillary 36501 1) settings
      (heated 385 (.fail .low)) gained
    powers k = (7, 10, 342, 359, 349, 349) ∧ forces k = (47, 47, 60, false, true) := by decide

/-- Chapter 7, the worked run of class 11: states, E and counts after its results 4, 6 and 7. -/
def run (xs : List Nat) : WireClass :=
  xs.foldl (fun c x => c.takeResult x .span) (wireClass .proving)

theorem test_run_enters_watch :
    ((run [400, 360, 330, 320]).state, (run [400, 360, 330, 320]).ewma) = (.watch, some 5780) := by decide

theorem test_run_lapses :
    let c := run [400, 360, 330, 320, 390, 290, 285]
    (c.state, c.ewma, c.resultsSince, c.lows, c.goods) = (.lapsed .repeatLow, some 5326, 7, 2, 0) := by decide

/-- Chapter 8, the worked plan: P = 8, D = 5, K = 2 over s = 0 to 9, 13 and 14, unshortened and shortened. -/
theorem test_plan_table :
    let p : Plan := { period := 8, offset := 5, run := 2 }
    ([0, 1, 2, 3, 4, 5, 6, 7, 8, 9, 13, 14].filter (planTest p false),
      [0, 1, 2, 3, 4, 5, 6, 7, 8, 9, 13, 14].filter (planTest p true)) =
      ([5, 6, 13, 14], [1, 2, 5, 6, 9, 13, 14]) := by decide

/-- R140: of 20 wires the two filters select 1, 8 and 16. -/
theorem test_filters_select :
    let c := { copy with wires := List.replicate 20 wire, filter1 := { value := 0, mask := 7, enabled := true },
                         filter2 := { value := 1, mask := 1023, enabled := true } }
    (selection c .plan []).map TicketWire.wire = [1, 8, 16] := by decide

/-- R164: the line from (0,0) to (4,2) passes (1,1) and (2,1), rounding half up. -/
theorem test_line_rounds_half_up :
    onLine 0 0 4 2 1 1 = true ∧ onLine 0 0 4 2 2 1 = true ∧ onLine 0 0 4 2 1 0 = false := by decide

/-- Chapter 10, the worked sequence: the answer to request 1 carries the overrun mark of request 2. -/
theorem test_lost_frame :
    let s1 := after (exec (.amendCellWindow 1 0 [.clearance 1]) State.reset)
    let s2 := after (exec .overrun s1)
    let s3 := after (exec .responsePlaced s2)
    s3.link.response.map Response.overrun = some true ∧ s3.link.overrun = false ∧ s3.cell.clearance = 1 ∧
      s3.link.counts.overruns = 1 := by decide

/-! ## One step of a command -/

/-- R25, R26: the presence line rises in STOP; the scan waits. -/
theorem test_presence_rise_waits : (after (exec (.presenceRise .input) State.reset)).feed.inScanDue = true := by decide

/-- R26: a scan begins with FEED_RUN. -/
theorem test_feed_run_scans :
    (after (exec (.feedRun 1) { State.reset with feed := .reset true false })).out.track = [(.input, .scan)] := by
  decide

/-- R85: a CONTACT of FIRST BOND raises N and takes the ball. -/
theorem test_contact_counts :
    let t := after (exec (.contact .one) (bonding (.firstBond .contact)))
    (t.head1.capillary.count, t.head1.ball) = (1, false) := by decide

/-- R97: a stray BOND_DONE is counted. -/
theorem test_stray_counted : (after (exec (.bondDone .two) State.reset)).head2.stats.strays = 1 := by decide

/-- R184: TAKE of LINK counts itself before it zeroes the counts. -/
theorem test_take_link_counts_itself :
    let t := after (exec (.takeLink 9 0) State.reset)
    (t.link.counts.requests, t.link.lastTag) = (0, 9) := by decide

/-- R107: a reading at the window's edge passes the gate. -/
theorem test_reading_at_edge_passes : (after (exec (.reading (.temperature 390)) State.reset)).heater.gate = .pass := by
  decide

/-- R18: RETIRE of a departed strip. -/
theorem test_retire_strip :
    (after (exec (.retireStrip 1 1) (stocked .departed (unitIn .bonded)))).store.strips = [] := by decide

/-- R154, R155: a panel off the 8-pixel grid is refused. -/
theorem test_panel_off_grid : panelOf 1 { bodyOf (panel .text) with x := 4 } = none := by decide

/-- R165: the render that CLEAR_SCREEN begins gives way to a DRAW. -/
theorem test_draw_before_first_render :
    let s1 := after (exec (.clearScreen 1) (showing .canvas))
    let s2 := after (exec .responsePlaced s1)
    let s3 := after (exec (.draw 2 15 1 (.hLine 0 0 8)) s2)
    s1.screen.operation = some (.render blankPicture) ∧
      s3.screen.operation = some (.draw { panel := 15, index := 1, shape := .hLine 0 0 8 } (some (panel .canvas))) ∧
      s3.screen.stale = [15] := by decide

/-! ## States and operands that meet the hypotheses of the statements, clause by clause -/

/-- Reset with one input slot in a state and a move target. -/
def slotIn (st : InSlotState) (target : Option Nat) : State :=
  { State.reset with feed := { Feed.reset true true with
      inSlots := [{ state := st, map := none, tag := none }], inTarget := target } }
/-- A jammed window entry. -/
def jammedEntry : State :=
  let s := stocked .preheat (unitIn .pending)
  { s with feed := { s.feed with
      preheat := some 1
      track := { state := .held .jam, jammed := some .transferPreheat, timer := none, limit := 0 } } }
/-- The feed with both lines high, in RUN or not. -/
def lined (run : Bool) : State := { State.reset with feed := { Feed.reset true true with run } }
/-- The same copy with two wires, and a staged copy. -/
def twoWires : ProgramCopy := { copy with wires := [wire, wire] }
def stagedPart (loc : Location) : State := { stocked loc (unitIn .pending) with
  programs := [{ program with staged := some twoWires }] }
/-- A departed strip's program, in no use, with two wires. -/
def idleProgram : State := { stocked .departed (unitIn .bonded) with programs := [{ program with active := twoWires }] }
def classBody : ClassBody :=
  { pMin := 300, pMax := 600, fMin := 30, fMax := 80, trim := -2, trimStep := 5, missPolicy := 1, pullMin := 300,
    watchLevel := 370, shift := 2, bandWidth := 20, provingUnits := 3, resultsRequired := 4, recovery := 2 }
/-- The heater with a reading that passes, or with none and its timer running. -/
def warm (s : State) : State :=
  { s with heater := { s.heater with gate := .pass, lastTemperature := some 400, freshTimer := some 1 } }
/-- A part with an operation in flight. -/
def drawing (op : Operation) (queued : Nat) : State :=
  { showing .canvas with screen := { (showing .canvas).screen with
      operation := some op
      queue := List.replicate queued { panel := 15, index := 1, shape := .hLine 0 0 8 } } }
def dot : Draw := { panel := 15, index := 15, shape := .circle 0 0 0 1 }

theorem witness_ReadAndUnknownTransactions :
    answeredPart.link.request = none ∧ answeredPart.link.response.isSome ∧ processing.link.request.isSome ∧
      State.reset.link.response = none := by decide

theorem witness_BadFrameAnsweredAtOnce : State.reset.link.request = none := rfl

theorem witness_FrameDuringProcessingIsOverrun :
    processing.link.request = some { tag := 1, kind := 1, code := 1, answer := some (plain .ok) } ∧
      isRequest (.cellReset 255) = true ∧ isRequest .overrun = true := ⟨rfl, rfl, rfl⟩

theorem witness_ResponsePlacedFromAnswer :
    ∃ r a, processing.link.request = some r ∧ r.answer = some a := ⟨_, _, rfl, rfl⟩

/-- A part with a strip, a program of one wire in both copies, a class, a ticket, a panel and two LOADED slots. -/
def readPart : State :=
  let s := ticketed
  { s with
    programs := [{ program with staged := some copy }]
    quality := { s.quality with classes := [wireClass .qualified] }
    screen := (showing .canvas).screen }

theorem witness_ReadingTablesChangesNothing :
    readPart.link.request = none ∧
      (∀ key ∈ [TableKey.cell 0, .strip 1, .inslot 1, .inslot 20, .outslot 1, .program 1, .wire 1 1 .active,
          .wire 1 1 .staged, .loop 1, .loop 24, .cls 1, .ticket 0, .ticket 4294967295, .head 1, .head 2, .heater 0,
          .panel 15 .active, .panel 15 .staged, .panel 16 .active, .colourMap 0, .backlight 0, .touch 0, .attention 0,
          .link 0],
        (recordOf readPart 7 key).isSome) ∧
      ∀ key ∈ [TableKey.cell 1, .strip 0, .strip 2, .inslot 0, .inslot 41, .outslot 0, .outslot 41, .program 0,
          .program 2, .wire 1 0 .active, .wire 1 2 .staged, .wire 2 1 .active, .loop 0, .loop 25, .cls 0, .cls 2,
          .ticket 1, .head 0, .head 3, .heater 1, .panel 0 .active, .panel 14 .staged, .panel 17 .active, .colourMap 1,
          .backlight 1, .touch 1, .attention 1, .link 1],
        recordOf readPart 7 key = none := by decide

theorem witness_TakeZeroesCounts :
    (stocked .window (unitIn .pending)).link.request = none ∧ headOfNumber 1 = some .one ∧ headOfNumber 2 = some .two ∧
      (stocked .window (unitIn .pending)).program 1 = some program ∧
      (stocked .window (unitIn .pending)).cls 1 = some (wireClass .qualified) := by decide

theorem witness_LockedAndMixedWritesRefused : State.reset.link.request = none ∧ 16 ≤ 16 ∧ 16 ≤ 17 := by decide

theorem witness_AttentionRequests :
    State.reset.link.request = none ∧ 0x3FF < 0x400 ∧ AttentionField.flags ∈ [AttentionField.mask 0x400, .flags] ∧
      AttentionField.line ∈ [AttentionField.line] := by decide

theorem witness_CellSettingsStored :
    State.reset.link.request = none ∧ 40 < 41 ∧
      ∀ g ∈ [Group.input, .output],
        State.reset.present g = false ∧ (State.reset.group g).state ≠ .held .magazineLost ∧
        State.present { State.reset with feed := .reset true true } g = true ∧
        ((State.holdGroup State.reset g .magazineLost).group g).state = .held .magazineLost := by decide

theorem witness_LotAndProgramInForce :
    State.reset.link.request = none ∧ State.reset.program 1 = none ∧ State.reset.program 16 = none ∧
      (State.program { State.reset with programs := [{ program with id := 16 }] } 16).isSome ∧ 16 < 17 := by decide

theorem witness_HeaterSettingsStored :
    State.reset.link.request = none ∧ (1000 : Nat) ≤ 1000 ∧ 1 ≤ 40 ∧ 1000 < 1001 ∧ 40 < 41 ∧ 64 < 65 ∧
      CellHeaterField.window 41 ∈ [CellHeaterField.gain 1, .window 41] := by decide

/-- R108: a field out of range refuses the AMEND with the others it names. -/
theorem test_heater_setting_out_of_range :
    ∀ f ∈ [CellHeaterField.setPoint 1001, .window 0, .window 41, .gain 65],
      let t := after (exec (.amendCellHeater 1 0 [.gain 3, f]) State.reset)
      t.link.request = some { tag := 1, kind := 4, code := 1, answer := some (plain .badField) } ∧
        t.cell = State.reset.cell := by decide

/-- R183: an AMEND of ATTENTION may name the mask alone. -/
theorem test_amend_attention_flags_locked :
    let t := after (exec (.amendAttention 1 0 [.mask 1, .flags]) State.reset)
    t.link.request = some { tag := 1, kind := 4, code := 16, answer := some (plain .locked) } ∧ t.link.mask = 0 := by
  decide

theorem witness_RejectAndUnreject :
    (stocked .preheat (unitIn .reject)).link.request = none ∧ (stocked .preheat (unitIn .reject)).strip 2 = none ∧
      (∀ loc ∈ [Location.preheat, .window, .exit, .output 40, .departed],
        ∀ st ∈ [UnitState.skip, .pending, .claimed .one, .claimed .two, .bonded, .fault, .rework, .reject],
          (stocked loc (unitIn st)).strip 1 = some (strip loc (unitIn st)) ∧
          (strip loc (unitIn st)).entry 1 1 = some (unitIn st) ∧ (strip loc (unitIn st)).entry 2 1 = some (unitIn st) ∧
          (strip loc (unitIn st)).holds 0 1 = false ∧ (strip loc (unitIn st)).holds 3 1 = false ∧
          (strip loc (unitIn st)).holds 1 2 = false) ∧
      ({ strip .window (unitIn .reject) with inMotion := true }).inMotion = true := by decide

/-- A REJECT unit of a strip at rest in WINDOW: with columns 1 and 2 in force, and with none, the next column 2. -/
theorem witness_RejectAndUnreject_window :
    let r := { strip .window (unitIn .reject) with nextColumn := 2 }
    let s := stocked .window (unitIn .reject)
    let closed := { s with store := { s.store with strips := [r] } }
    let opened := { closed with arbiter := { closed.arbiter with window := .opened 1 2 } }
    closed.strip 1 = some r ∧ r.location = .window ∧ r.inMotion = false ∧ r.entry 1 1 = some (unitIn .reject) ∧
      r.entry 2 1 = some (unitIn .reject) ∧ opened.inForce 1 = true ∧ opened.inForce 2 = true ∧
      closed.inForce 1 = false ∧ r.nextColumn ≤ 2 ∧ 1 < r.nextColumn ∧ closed.head1.asks = false ∧
      closed.head2.asks = false := by decide

theorem witness_RetireStripOutcomes :
    State.reset.strip 1 = none ∧ (strip .exit (unitIn .bonded)).location ≠ .departed ∧
      (∃ k ∈ ticketed.quality.tickets, k.strip = 1) ∧ ticketed.link.request = none ∧
      (∀ k ∈ (stocked .departed (unitIn .bonded)).quality.tickets, k.strip ≠ 1) := by decide

theorem witness_InputSlotWrites :
    State.reset.link.request = none ∧ nth State.reset.feed.inSlots 0 = none ∧ nth State.reset.feed.inSlots 21 = none ∧
      (nth State.reset.feed.inSlots 20).isSome ∧ (slotIn .loaded (some 1)).feed.inTarget = some 1 ∧
      (∀ st ∈ [InSlotState.unknown, .empty, .loaded, .taken, .jammed],
        (nth (slotIn st none).feed.inSlots 1).map InSlot.state = some st ∧ (slotIn st none).feed.inTarget ≠ some 1) ∧
      mapOk [{ column := 41, row := 1 }] = false ∧ mapOk [] = true ∧
      mapOk [{ column := 40, row := 8 }, { column := 1, row := 1 }] = true := by decide

/-- A part at rest in STOP with both magazines present and no scan due: slots 1 and 3 LOADED and EMPTY, the soak
elapsed, columns 1 and 2 in force, and a strip of two units in a place with the next column given. -/
def ready (loc : Location) (u : UnitEntry) (next : Nat) : State :=
  let s := stocked loc u
  { s with
    store := { s.store with strips := [{ strip loc u with nextColumn := next }] }
    arbiter := { s.arbiter with window := .opened 1 2 }
    feed := { Feed.reset true true with
      inScanDue := false
      outScanDue := false
      soak := .elapsed
      preheat := if loc = .preheat then some 1 else none
      window := if loc = .window then some 1 else none
      exit := if loc = .exit then some 1 else none
      inSlots := [InSlotState.loaded, .unknown, .loaded].map fun st => { state := st, map := none, tag := none }
      outSlots := [.empty, .unknown, .empty] } }

theorem nth_bounds {α : Type} {l : List α} {k : Nat} {q : α} (h : nth l k = some q) : 1 ≤ k ∧ k ≤ l.length := by
  unfold nth at h
  split at h
  · cases h
  · have := (List.getElem?_eq_some_iff.mp h).1
    omega

theorem witness_FeedRunState :
    let s := ready .departed (unitIn .bonded) 3
    State.reset.link.request = none ∧ s.link.request = none ∧ s.feed.input.state = .idle ∧
      s.feed.track.state = .idle ∧ s.feed.output.state = .idle ∧ (lined false).feed.inScanDue = true ∧
      (lined false).feed.outScanDue = true ∧ s.feed.inScanDue = false ∧ s.feed.outScanDue = false ∧
      State.reset.feed.inPresent = false ∧ s.feed.inPresent = true ∧ s.feed.preheat = none ∧ s.feed.window = none ∧
      (ready .preheat (unitIn .pending) 1).feed.preheat ≠ none ∧
      (∃ q ∈ (ready .preheat (unitIn .pending) 1).feed.inSlots, q.state = .loaded) ∧
      (∀ q ∈ (lined false).feed.inSlots, q.state ≠ .loaded) ∧ s.store.strips.length < 64 ∧ s.store.program ≠ 0 ∧
      s.program s.store.program ≠ none ∧ State.reset.store.program = 0 ∧
      64 ≤ (List.replicate 64 (strip .departed (unitIn .bonded))).length ∧
      (busyGroup .track .transferWindow).feed.track.state ≠ .idle := by decide

/-- The next slot in either direction, at both ends of a side. -/
theorem witness_FeedRunState_slots :
    NextSlot .bottomUp (fun q : InSlot => q.state = .loaded) (ready .departed (unitIn .bonded) 3).feed.inSlots 1 ∧
      NextSlot .topDown (fun q : InSlot => q.state = .loaded) (ready .departed (unitIn .bonded) 3).feed.inSlots 3 ∧
      NextSlot .bottomUp (fun q : OutSlot => q = .empty) (ready .departed (unitIn .bonded) 3).feed.outSlots 1 ∧
      NextSlot .topDown (fun q : OutSlot => q = .empty) (ready .departed (unitIn .bonded) 3).feed.outSlots 3 ∧
      ∀ q ∈ (lined false).feed.outSlots, q ≠ .empty := by
  refine ⟨⟨⟨_, rfl, rfl⟩, ?_⟩, ⟨⟨_, rfl, rfl⟩, ?_⟩, ⟨⟨_, rfl, rfl⟩, ?_⟩, ⟨⟨_, rfl, rfl⟩, ?_⟩, by decide⟩ <;>
    intro k q h _
  · exact (nth_bounds h).1
  · exact (nth_bounds h).2
  · exact (nth_bounds h).1
  · exact (nth_bounds h).2

theorem witness_FeedClearOutcomes :
    jammedEntry.link.request = none ∧ jammedEntry.feed.track.state = .held .jam ∧
      jammedEntry.feed.track.jammed = some .transferPreheat ∧ jammedEntry.feed.preheat = some 1 ∧
      jammedEntry.strip 1 = some (strip .preheat (unitIn .pending)) ∧ jammedEntry.feed.run = false ∧
      (∀ n ∈ [1, 2, 3], (groupOfCode n).isSome) ∧ groupOfCode 0 = none ∧ groupOfCode 4 = none ∧
      (∀ g ∈ [Group.input, .track, .output],
        ∀ s ∈ [State.reset, busyGroup g .scan, State.holdGroup State.reset g .tableFull],
          (s.group g).state ≠ .held .jam ∧ (s.group g).state ≠ .held .magazineLost) := by decide

theorem witness_DoneEndsOrder :
    let s := stocked .exit (unitIn .bonded)
    let out := { s with feed := { s.feed with exit := some 1, output := (busyGroup .output (.push 20)).feed.output } }
    (busyGroup .input (.elevate 20)).feed.input.state = .busy (.elevate 20) ∧
      out.feed.output.state = .busy (.push 20) ∧ out.feed.exit = some 1 ∧
      out.strip 1 = some (strip .exit (unitIn .bonded)) := by decide

theorem witness_DoneEndsOrder_not_busy : ∀ g o, (State.reset.group g).state ≠ .busy o := by
  intro g o; cases g <;> (change GroupState.idle ≠ _; simp)

theorem witness_JamHoldsGroup :
    (busyGroup .track .transferWindow).feed.track.state = .busy .transferWindow ∧
      (busyGroup .track .transferWindow).feed.track.timer.isSome := by decide

theorem witness_SlotSeenInScan :
    (busyGroup .input .scan).feed.input.state = .busy .scan ∧
      (busyGroup .output .scan).feed.output.state = .busy .scan ∧
      (busyGroup .input .scan).feed.inSlots.length = 20 ∧ (busyGroup .output .scan).feed.outSlots.length = 20 ∧
      State.reset.feed.input.state ≠ .busy .scan ∧ State.reset.feed.output.state ≠ .busy .scan := by decide

theorem witness_PresenceLines :
    let low := { State.reset with feed := { State.reset.feed with run := true } }
    let full := { stocked (.output 20) (unitIn .bonded) with
      feed := { Feed.reset true true with outSlots := [.filled 1], input := (busyGroup .input .scan).feed.input } }
    low.feed.inPresent = false ∧ low.feed.outPresent = false ∧ low.feed.run = true ∧ low.feed.input.state = .idle ∧
      low.feed.output.state = .idle ∧ State.reset.feed.run = false ∧ full.feed.inPresent = true ∧
      full.feed.outPresent = true ∧ full.feed.input.state = .busy .scan ∧ (lined false).feed.output.state = .idle ∧
      (busyGroup .output (.push 20)).feed.output.state = .busy (.push 20) ∧ (lined false).feed.input.state = .idle ∧
      .filled 1 ∈ full.feed.outSlots ∧ full.strip 1 = some (strip (.output 20) (unitIn .bonded)) := by decide

theorem witness_SoakElapsedStartsEntry :
    let s := { lined true with feed := { (lined true).feed with soak := .running 1, preheat := some 1 } }
    s.feed.soak = .running 1 ∧ s.feed.run = true ∧ s.feed.track.state = .idle ∧ s.feed.window = none ∧
      s.feed.preheat.isSome ∧ State.reset.feed.soak = .idle := by decide

theorem witness_SoakElapsedStartsEntry_millisecond :
    State.reset.pending = [] ∧ expiring (counted State.reset) = [] ∧
      expiring (counted (warm State.reset)) = [.freshnessExpiry] ∧
      expiring (counted (State.setSoak State.reset (.running 1))) = [.soakElapsed] ∧
      expiring (counted (State.onHead State.reset .two fun r => { r with stopTimer := some 1 })) =
        [.stopTimeout .two] := by decide

theorem witness_ProgramCreatedAndRetired :
    State.reset.link.request = none ∧ State.reset.program 1 = none ∧ State.reset.program 16 = none ∧
      (stocked .departed (unitIn .bonded)).program 1 ≠ none ∧
      copyOk (copyOfBody { name := [], columns := 40, rows := 8, pitchX := 0, pitchY := 65535, soak := 120,
                           plan := copy.plan, filter1 := noFilter, filter2 := noFilter, filter3 := noFilter,
                           filter4 := noFilter }) = true ∧
      (stocked .departed (unitIn .bonded)).store.program = 1 ∧
      (∃ r ∈ (stocked .departed (unitIn .bonded)).store.strips, r.program = 1) ∧
      copyOk (copyOfBody { name := [], columns := 41, rows := 8, pitchX := 0, pitchY := 65535, soak := 120,
                           plan := copy.plan, filter1 := noFilter, filter2 := noFilter, filter3 := noFilter,
                           filter4 := noFilter }) = false ∧
      (∀ r ∈ State.reset.store.strips, r.program ≠ 1) ∧ State.reset.store.program ≠ 1 ∧
      State.program { State.reset with programs := [program] } 1 ≠ none := by decide

theorem witness_ProgramApplyOutcomes :
    State.reset.link.request = none ∧ State.reset.program 1 = none ∧
      (stocked .window (unitIn .pending)).program 1 = some program ∧ program.staged = none ∧
      (stagedPart .window).program 1 = some { program with staged := some twoWires } ∧
      (∃ r ∈ (stagedPart .preheat).store.strips, r.program = 1 ∧ (r.location = .preheat ∨ r.location = .window)) ∧
      (∃ r ∈ (stagedPart .window).store.strips, r.program = 1 ∧ (r.location = .preheat ∨ r.location = .window)) ∧
      (∀ r ∈ (stagedPart .exit).store.strips, r.program = 1 → r.location ≠ .preheat ∧ r.location ≠ .window) := by decide

theorem tablesOk_idleProgram : TablesOk idleProgram := by
  refine ⟨?_, ?_, ?_, ?_, ?_⟩ <;> decide

theorem witness_WireWritesReachActiveCopy :
    idleProgram.link.request = none ∧ idleProgram.program 1 = some { program with active := twoWires } ∧
      idleProgram.inUse 1 = false ∧ recordsUsed idleProgram.programs < 4096 ∧ twoWires.wires.length < 600 ∧
      wireOk wire = true ∧ ({ twoWires with wires := twoWires.wires ++ [wire] }).inBounds = true ∧
      (idleProgram.cls wire.cls).isSome ∧ nth twoWires.wires 2 = some wire ∧ wireOk { wire with tail := 2000 } = true ∧
      ({ twoWires with wires := updateNth twoWires.wires 2 fun _ => { wire with tail := 2000 } }).inBounds = true ∧
      1 ≤ twoWires.wires.length ∧ twoWires.wires.length + 1 < 4 := by decide

/-- A program staged and one in use, a change that wire memory covers, and each refusal of a wire's write. -/
theorem witness_WireWritesReachActiveCopy_staged :
    let p := { program with staged := some twoWires }
    let s := stagedPart .window
    let w := stocked .window (unitIn .pending)
    s.link.request = none ∧ s.program 1 = some p ∧ w.program 1 = some program ∧ w.inUse 1 = true ∧
      Fits s p { twoWires with wires := updateNth twoWires.wires 2 fun _ => wire } ∧
      Fits w program { copy with wires := copy.wires ++ [wire] } ∧ Fits w program { copy with wires := [] } ∧
      wireOk { wire with tail := 2001 } = false ∧ wireOk { wire with bump := some bondSet } = true ∧
      wireOk wire = true ∧ ({ copy with wires := [wire, wire] } : ProgramCopy).inBounds = true ∧
      s.cls 1 ≠ none ∧ s.cls 32 = none ∧ wireOk { wire with cls := 32 } = true ∧ nth twoWires.wires 2 = some wire ∧
      nth copy.wires 1 = some wire ∧ 1 ≤ copy.wires.length ∧ 600 < 601 := by
  unfold Fits; decide

theorem tablesOk_staged : TablesOk (stagedPart .window) := by
  refine ⟨?_, ?_, ?_, ?_, ?_⟩ <;> decide

/-- A program of a number of wires, and a part whose programs fill wire memory, program 1 in use. -/
def sized (id n : Nat) : Program := { program with id, active := { copy with wires := List.replicate n wire } }
def fullMemory : State :=
  { stocked .window (unitIn .pending) with
    programs := [sized 1 600, sized 2 600, sized 3 600, sized 4 600, sized 5 600, sized 6 600, sized 7 496] }

theorem records_sized (id n : Nat) : (sized id n).records = n := by simp [sized, Program.records, program]

theorem recordsUsed_fullMemory : recordsUsed fullMemory.programs = 4096 := by
  change recordsUsed [sized 1 600, sized 2 600, sized 3 600, sized 4 600, sized 5 600, sized 6 600, sized 7 496] = _
  simp only [recordsUsed, List.map, records_sized]
  rfl

theorem witness_WireWritesReachActiveCopy_full :
    TablesOk fullMemory ∧ fullMemory.program 1 = some (sized 1 600) ∧ fullMemory.inUse 1 = true ∧
      ∀ c : ProgramCopy, c.wires ≠ [] → ¬ Fits fullMemory (sized 1 600) c := by
  refine ⟨⟨by decide, recordsUsed_fullMemory.le, by decide, by decide, by decide⟩, rfl, rfl, ?_⟩
  intro c h fits
  have := List.length_pos_iff.mpr h
  have staged : landed fullMemory (sized 1 600) c = { sized 1 600 with staged := some c } := rfl
  rw [Fits, staged, recordsUsed_fullMemory, records_sized] at fits
  have : ({ sized 1 600 with staged := some c } : Program).records =
      (sized 1 600).active.wires.length + c.wires.length := rfl
  have : (sized 1 600).active.wires.length = 600 := List.length_replicate
  omega

theorem tablesOk_stocked :
    TablesOk (stocked .window (unitIn .pending)) ∧ TablesOk (stocked .exit (unitIn .bonded)) := by
  refine ⟨⟨?_, ?_, ?_, ?_, ?_⟩, ?_, ?_, ?_, ?_, ?_⟩ <;> decide

theorem witness_ProgramAmendLandsByUse :
    let s := stocked .window (unitIn .pending)
    s.link.request = none ∧ s.program 1 = some program ∧ program.staged = none ∧ copyOk copy = true ∧
      copy.inBounds = true ∧ s.inUse 1 = true ∧ recordsUsed s.programs + copy.wires.length ≤ 4096 ∧
      (stocked .exit (unitIn .bonded)).inUse 1 = false ∧
      (copyOk { copy with rows := 9 } = false ∧ copyOk { copy with rows := 8 } = true ∧
        ({ copy with rows := 8 } : ProgramCopy).inBounds = true) ∧
      copyOk { copy with name := [32, 126] } = true ∧ ({ copy with name := [32, 126] } : ProgramCopy).inBounds = true ∧
      (stagedPart .exit).program 1 = some { program with staged := some twoWires } ∧
      recordsUsed (stagedPart .exit).programs ≤ 4096 := by decide

theorem witness_LoopShapeWrites :
    State.reset.link.request = none ∧ nth State.reset.loops 0 = none ∧ nth State.reset.loops 25 = none ∧
      nth State.reset.loops 24 = some LoopShape.reset ∧ loopOk { LoopShape.reset with height := 50 } = true ∧
      loopOk { LoopShape.reset with height := 1000 } = true ∧ loopOk LoopShape.reset = true ∧ 3 < 4 := by decide

theorem witness_ClassTableWrites :
    let s := stocked .departed (unitIn .bonded)
    State.reset.link.request = none ∧ s.cls 1 = some (wireClass .qualified) ∧ State.reset.cls 32 = none ∧
      settingsOf classBody = some settings ∧ classOk settings = true ∧ classOk { settings with trim := 8 } = true ∧
      s.classUsed 1 = true ∧ State.classUsed { s with programs := [] } 1 = false ∧
      (∀ k ∈ s.quality.tickets, k.awaits 1 = false) ∧ (∃ k ∈ ticketed.quality.tickets, k.awaits 1 = true) ∧
      (∀ c, settingsOf { classBody with missPolicy := 3 } = some c → classOk c = false) ∧
      classOk { settings with trim := 9 } = false := by
  refine ⟨rfl, rfl, rfl, rfl, rfl, rfl, rfl, rfl, ?_, ?_, ?_, rfl⟩
  · decide
  · decide
  · intro c h; cases h

theorem witness_RequalifyStartsAgain :
    State.reset.link.request = none ∧ State.reset.cls 1 = none ∧
      ((stocked .departed (unitIn .bonded)).cls 1).isSome := by decide

/-- A class in a state with the running values given. -/
def classAt (st : ClassState) (e since lows goods : Nat) : WireClass :=
  { wireClass st with ewma := some e, resultsSince := since, lows, goods }

/-- What the clauses read of a class and a result: the state, whether the result is low, whether the results are enough,
and whether the EWMA after it reaches the watch level and the pull minimum. -/
def examined (c : WireClass) (x : Nat) : ClassState × Bool × Bool × Bool × Bool :=
  let e := ewmaStep c.ewma c.settings.shift x
  (c.state, decide (x < c.settings.pullMin), decide (c.settings.resultsRequired ≤ count16 c.resultsSince),
    decide (16 * c.settings.watchLevel ≤ e), decide (16 * c.settings.pullMin ≤ e))

theorem witness_ClassExaminesResult_proving :
    examined (classAt .proving 6000 0 0 0) 299 = (.proving, true, false, false, true) ∧
      examined (classAt .proving 5920 3 0 0) 370 = (.proving, false, true, true, true) ∧
      examined (classAt .proving 5900 3 0 0) 300 = (.proving, false, true, false, true) ∧
      examined (classAt .proving 5920 2 0 0) 370 = (.proving, false, false, true, true) := by decide

theorem witness_ClassExaminesResult_qualified :
    examined (classAt .qualified 9000 9 0 0) 299 = (.qualified, true, true, true, true) ∧
      examined (classAt .qualified 5915 9 0 0) 370 = (.qualified, false, true, false, true) ∧
      examined (classAt .qualified 5920 9 0 0) 370 = (.qualified, false, true, true, true) := by decide

theorem witness_ClassExaminesResult_watch :
    examined (classAt .watch 9000 9 1 0) 299 = (.watch, true, true, true, true) ∧
      (classAt .watch 9000 9 1 0).lows = 1 ∧
      examined (classAt .watch 4790 9 0 0) 300 = (.watch, false, true, false, false) ∧
      examined (classAt .watch 4900 9 0 0) 299 = (.watch, true, true, false, true) ∧
      examined (classAt .watch 5920 9 0 1) 370 = (.watch, false, true, true, true) := by decide

theorem witness_ClassExaminesResult :
    settings.recovery ≤ count8 (classAt .watch 5920 9 0 1).goods ∧
      count8 (classAt .watch 5920 9 0 0).goods < settings.recovery ∧
      (classAt (.lapsed .overdue) 5000 9 0 0).state = .lapsed .overdue := by decide

theorem witness_EwmaMovesTowardResult :
    ((1 : Nat) ≤ 1 ∧ 6 ≤ 6) ∧ 32000 ≤ 16 * 2000 ∧ 16 * 0 < 1 ∧ 2000 ≤ 2000 := by decide

theorem witness_SubmitResultJudged :
    ticketed.link.request = none ∧ pullModeOfCode 0 = none ∧ pullModeOfCode 6 = none ∧
      pullModeOfCode 1 = some .ballLift ∧ pullModeOfCode 5 = some .stitchLift ∧ ticketed.ticket 1 = none ∧
      ticketed.ticket 4294967295 = some ticket ∧ (∀ w ∈ ticket.wires, w.wire ≠ 3) ∧
      (ticket.wires.find? fun w => w.wire == 1) = some { wire := 1, cls := 1, reported := false } ∧
      (ticket.wires.find? fun w => w.wire == 2) = some { wire := 2, cls := 1, reported := true } ∧
      (ticketed.cls 1).isSome ∧ (∀ e ∈ ticket.wires, e.wire ≠ 1 → e.reported = true) ∧
      (∃ e ∈ openTicket.wires, e.wire ≠ 1 ∧ e.reported = false) ∧
      ticketed.unit 1 1 1 = some { unitIn .bonded with pull := some (.ticketed .pending 4294967295) } := by decide

theorem witness_GaugeFramesAnswered_accepted :
    let bs : List Byte := [0xFF, 0xFF, 0xFF, 0xFF, 0, 1, 0x09, 0xC4, 1, 0xE0]
    ticketed.gauge = { bytes := [], limit := none } ∧ bs.length = 10 ∧ sumsToZero (0x55 :: bs) = true ∧
      pullModeOfCode (numberOf ((bs.drop 8).take 1)) = some .ballLift ∧
      ticketed.ticket (numberOf (bs.take 4)) = some ticket ∧ numberOf ((bs.drop 4).take 2) = 1 ∧
      2000 < numberOf ((bs.drop 6).take 2) := by decide

theorem witness_GaugeFramesAnswered :
    State.reset.gauge = { bytes := [], limit := none } ∧
      sumsToZero [0x55, 0, 0, 0, 1, 0, 1, 0, 0, 1, 0] = false ∧
      sumsToZero [0x55, 0, 0, 0, 1, 0, 1, 0, 0, 1, 0xA8] = true ∧
      (pullModeOfCode (numberOf (([0, 0, 0, 1, 0, 1, 0, 0, 1, 0xA8] : List Byte).drop 8 |>.take 1))).isSome ∧
      State.reset.ticket (numberOf [0, 0, 0, 1]) = none ∧
      ({ bytes := [0x55], limit := some 0 } : Gauge).bytes ≠ [] := by decide

theorem witness_WithdrawAndSampleNext :
    State.reset.link.request = none ∧ State.reset.ticket 1 = none ∧ ticketed.ticket 4294967295 = some ticket ∧
      ticketed.unit 1 1 1 = some { unitIn .bonded with pull := some (.ticketed .pending 4294967295) } ∧
      State.reset.program 1 = none ∧ ticketed.program 1 ≠ none := by decide

theorem witness_PlanTestByRemainder : 1 ≤ ({ period := 1, offset := 999, run := 1000 } : Plan).period := by decide

theorem witness_HeadEnableDisable :
    State.reset.link.request = none ∧ headOfNumber 0 = none ∧ headOfNumber 3 = none ∧ headOfNumber 2 = some .two ∧
      (freeHead .idle).head1.state ≠ .off ∧ State.reset.head1.state = .off ∧ State.reset.head1.claim = none ∧
      State.reset.arbiter.window = .closed ∧ State.reset.windowIndexing.arbiter.window = .indexing ∧
      (∀ st ∈ [HeadState.idle, .stalled .noUnit, .held .request, .bonding, .holding],
        (freeHead st).head1.state = st ∧ (freeHead st).head1.claim = none) ∧
      (headIn (.stalled .heater) none).head1.claim ≠ none := by decide

theorem witness_HoldByState :
    State.reset.link.request = none ∧ headOfNumber 1 = some .one ∧
      ∀ st ∈ [HeadState.off, .idle, .bonding, .holding, .stalled .index, .aborting .abort, .held .spark,
              .faulted .unresponsive], (headIn st none).head1.state = st := by decide

/-- Head 1 held with its claim in a part whose heater passes. -/
def heldPart (reason : HeldReason) (cls : ClassState) : State :=
  let s := warm (headIn (.held reason) none)
  { s with quality := { s.quality with classes := [wireClass cls] } }

theorem witness_ResumeByState :
    let s := heldPart .request .qualified
    let lapsed := heldPart .classLapsed (.lapsed .overdue)
    s.link.request = none ∧ lapsed.head1.state = .held .classLapsed ∧ lapsed.head1.claim = some claim ∧
      lapsed.head1.resume = some { wire := 1, entry := .start } ∧
      lapsed.classLapsed (lapsed.claimWire { claim with wire := 1 }).cls = true ∧
      (freeHead (.held .request)).head1.claim = none ∧ s.head1.state = .held .request ∧ s.head1.ball = true ∧
      s.heater.gate = .pass ∧ s.classLapsed (s.claimWire { claim with wire := 1 }).cls = false ∧
      s.head1.capillary.count + (if (s.claimWire { claim with wire := 1 }).bump.isSome then 3 else 2) ≤
        s.head1.capillary.life := by decide

/-- Head 1 held as given, with its count, its ball and the point to resume at. -/
def heldAt (reason : HeldReason) (cls : ClassState) (count : Nat) (ball : Bool) (entry : Entry) : State :=
  (heldPart reason cls).onHead .one fun r =>
    { r with ball, resume := some { wire := 1, entry }, capillary := { r.capillary with count } }

/-- A capillary spent by one touchdown and one that just suffices, a class LAPSED or not, either gate, either entry and
either ball state, and a hold without a claim. -/
theorem witness_ResumeByState_claims :
    (∀ reason ∈ [HeldReason.request, .aborted, .timeout, .spark, .miss, .missRun, .capillary, .classLapsed],
      ∀ cls ∈ [ClassState.qualified, .lapsed .overdue], ∀ count ∈ [999998, 999999, 1000000], ∀ ball ∈ [true, false],
        ∀ entry ∈ [Entry.start, .bump],
          (heldAt reason cls count ball entry).link.request = none ∧
          (heldAt reason cls count ball entry).head1.state = .held reason ∧
          (heldAt reason cls count ball entry).head1.claim = some claim ∧
          (heldAt reason cls count ball entry).head1.resume = some { wire := 1, entry } ∧
          (heldAt reason cls count ball entry).head1.capillary.count = count) ∧
      1000000 < 999999 + 2 ∧ ¬ 1000000 < 999998 + 2 ∧ 1000000 < 1000000 + 1 ∧ ¬ 1000000 < 999999 + 1 ∧
      (heldAt .request .qualified 0 true .start).head1.capillary.life = 1000000 ∧
      ((heldAt .request .qualified 0 true .start).claimWire claim).bump = none ∧
      (heldAt .request (.lapsed .overdue) 0 true .start).classLapsed 1 = true ∧
      (heldAt .request .qualified 0 true .start).classLapsed 1 = false ∧
      (heldAt .request .qualified 0 true .start).heater.gate = .pass ∧
      (headIn (.held .request) none).heater.gate ≠ .pass ∧
      (freeHead (.held .missRun)).head1.state = .held .missRun ∧ (freeHead (.held .missRun)).head1.claim = none ∧
      (freeHead (.held .missRun)).arbiter.window = .closed := by decide

theorem witness_ResumeByState_not_held : ∀ r, (State.reset.head .one).state ≠ .held r := by
  intro r; change HeadState.off ≠ _; simp

theorem witness_AbortAndHeadReset :
    State.reset.link.request = none ∧ (headIn .bonding none).head1.state = .bonding ∧
      (headIn .holding none).head1.state = .holding ∧ (freeHead (.stalled .cls)).head1.claim = none ∧
      (headIn (.faulted (.drive 255)) none).head1.state = .faulted (.drive 255) := by decide

theorem witness_AbortAndHeadReset_not_faulted : ∀ c, (State.reset.head .one).state ≠ .faulted c := by
  intro c; change HeadState.off ≠ _; simp

theorem witness_NewCapillaryRecorded :
    State.reset.link.request = none ∧ headOfNumber 0 = none ∧ headOfNumber 1 = some .one ∧
      (headIn .bonding none).head1.state = .bonding ∧
      (headIn (.aborting .timeout) none).head1.state = .aborting .timeout ∧
      State.reset.head1.state ≠ .bonding ∧ State.reset.head1.state ≠ .holding := by decide

theorem witness_NewCapillaryRecorded_not_aborting : ∀ c, (State.reset.head .one).state ≠ .aborting c := by
  intro c; change HeadState.off ≠ _; simp

theorem witness_HeadAmendJudged :
    let worn := (headIn .bonding none).onHead .one fun r => { r with capillary := { r.capillary with count := 10000 } }
    State.reset.link.request = none ∧ headOfNumber 3 = none ∧ headOfNumber 2 = some .two ∧
      9999 < worn.head1.capillary.count ∧ 10000 ≤ 10000 ∧ worn.head1.capillary.count ≤ 10000 ∧
      worn.head1.state = .bonding ∧ 9999 < 10000 ∧ 2000000 < 2000001 ∧ 2000000 ≤ 2000000 ∧
      State.reset.head1.capillary.count ≤ 10000 ∧
      (headIn (.aborting .timeout) none).head1.state = .aborting .timeout ∧
      ((State.reset.head .one).state ≠ .bonding ∧ (State.reset.head .one).state ≠ .holding) := by decide

theorem witness_BondStepEvents :
    (∀ st ∈ [Step.firstBond .contact, .secondBond .contact, .bump .contact, .firstBond .bondDone, .secondBond .bondDone,
             .bump .bondDone, .firstBond .attach, .tail, .bumpTail],
      (bonding st).head1.state = .bonding ∧ (bonding st).head1.claim = some claim ∧ (bonding st).head1.step = some st) ∧
      nth (bonding .tail).loops ((bonding .tail).claimWire claim).loop = some LoopShape.reset := by decide

theorem witness_AtPositionOrdersBond :
    let s := bonding .seekFirst
    let lapsed := { s with quality := { s.quality with classes := [wireClass (.lapsed .lowResult)] } }
    s.head1.state = .bonding ∧ s.head1.claim = some claim ∧ s.head1.step = some .seekFirst ∧
      (bonding .looping).head1.step = some .looping ∧
      s.cls (s.claimWire claim).cls = some (wireClass .qualified) ∧ classOk settings = true ∧
      lapsed.cls (lapsed.claimWire claim).cls = some (wireClass (.lapsed .lowResult)) := by decide

theorem witness_AtPositionOrdersBond_not_lapsed : ∀ r, (wireClass .qualified).state ≠ .lapsed r := by
  intro r; change ClassState.qualified ≠ _; simp

theorem witness_TemperaturePowerRounds :
    (64 : Nat) ≤ 64 ∧ (-40 : Int) ≤ -40 ∧ (40 : Int) ≤ 40 ∧ 1300 ≤ 1300 := by decide

theorem witness_SparkAndMissEvents :
    (∀ st ∈ [Step.openSpark, .bumpSpark, .endSpark, .firstBond .attach, .tail, .bumpTail],
      (bonding st).head1.state = .bonding ∧ (bonding st).head1.claim = some claim ∧ (bonding st).head1.step = some st ∧
      (bonding st).head1.sparkTry < 3) ∧
      claim.wireCount ≤ claim.wire ∧
      (bonding .tail).unit 1 1 1 = some { unitIn (.claimed .one) with wiresDone := 1 } ∧
      ((bonding .openSpark).onHead .one fun r => { r with sparkTry := 3 }).head1.sparkTry = 3 ∧
      ((bonding .tail).cls ((bonding .tail).claimWire claim).cls).map (·.settings.missPolicy) = some .stop ∧
      (bonding .tail).cell.missRun ≤ count8 2 := by decide

theorem witness_StoppingADrive :
    (bonding .tail).head1.state = .bonding ∧ (bonding .tail).head1.stepTimer.isSome ∧
      State.reset.head1.state ≠ .bonding ∧ State.reset.head1.state ≠ .holding ∧
      (∀ cause ∈ [AbortCause.timeout, .abort], (headIn (.aborting cause) none).head1.state = .aborting cause ∧
        (headIn (.aborting cause) none).head1.claim = some claim ∧
        (headIn (.aborting cause) none).head1.stopTimer.isSome) ∧
      claim.touched = false ∧
      (headIn (.aborting .abort) none).unit 1 1 1 = some { unitIn (.claimed .one) with wiresDone := 1 } := by decide

theorem witness_StoppingADrive_not_aborting : ∀ c, (State.reset.head .one).state ≠ .aborting c := by
  intro c; change HeadState.off ≠ _; simp

theorem witness_StrayAndDriveFault :
    (∀ st ∈ [HeadState.off, .idle, .stalled .noUnit, .held .request, .faulted .unresponsive, .aborting .timeout],
      (headIn st none).head1.state = st) ∧ (headIn (.aborting .timeout) none).head1.claim = some claim ∧
      (bonding .tail).head1.state ≠ .off ∧ (1 : Nat) ≤ 1 ∧ 255 ≤ 255 ∧ 255 < 256 := by decide

theorem witness_ReadingsAndGate :
    let s := headIn (.stalled .heater) none
    (1000 : Nat) ≤ 1000 ∧ 1000 < 1001 ∧ (warm s).heater.freshTimer.isSome ∧ s.heater.freshTimer = none ∧
      s.heater.gate ≠ .pass ∧ s.cell.setPoint ≤ 390 + s.cell.window ∧ 410 ≤ s.cell.setPoint + s.cell.window ∧
      s.head1.state = .stalled .heater ∧ s.head1.claim = some claim ∧
      s.head1.resume = some { wire := 1, entry := .start } ∧ s.head1.ball = true ∧
      s.classLapsed (s.claimWire { claim with wire := 1 }).cls = false ∧
      s.head1.capillary.count + (if (s.claimWire { claim with wire := 1 }).bump.isSome then 3 else 2) ≤
        s.head1.capillary.life := by decide

theorem witness_PanelColourBacklightWrites :
    let s := showing .canvas
    s.link.request = none ∧ findBy Panel.number 15 s.screen.staged = some (panel .canvas) ∧
      panelOf 15 (bodyOf (panel .canvas)) = some (panel .canvas) ∧ findBy Panel.number 0 s.screen.staged = none ∧
      (panelOf 0 (bodyOf (panel .canvas))).isSome ∧ panelOf 0 { bodyOf (panel .canvas) with period := 7 } = none := by
  decide

theorem witness_DrawsQueuedAndCleared :
    (drawing (.render blankPicture) 8).link.request = none ∧ shapeOk (.hLine 1023 0 1023) = true ∧
      shapeOk (.hLine 1024 0 1023) = false ∧ 8 ≤ (drawing (.render blankPicture) 8).screen.queue.length ∧
      (drawing (.render blankPicture) 7).screen.queue.length < 8 ∧
      (drawing (.render blankPicture) 7).screen.operation = some (.render blankPicture) ∧
      (drawing (.render blankPicture) 7).screen.cleared = false := by decide

/-- The first render of a cleared screen in flight, and draws in flight and waiting when the screen is cleared. -/
theorem witness_DrawsQueuedAndCleared_first_render :
    let s := after (exec .responsePlaced (after (exec (.clearScreen 1) (showing .canvas))))
    s.link.request = none ∧ s.screen.cleared = true ∧ s.screen.operation = some (.render blankPicture) ∧
      s.screen.queue = [] ∧ shapeOk (.hLine 0 0 8) = true ∧
      (drawing (.draw dot none) 7).screen.operation = some (.draw dot none) ∧
      (drawing (.draw dot none) 7).screen.queue.length < 8 := by decide

theorem witness_FramesAndPixels :
    FrameOk State.reset ∧ FrameOk (drawing (.render blankPicture) 0) ∧
      (drawing (.render blankPicture) 0).screen.operation = some (.render blankPicture) ∧
      (drawing (.draw dot (some (panel .canvas))) 0).screen.operation = some (.draw dot (some (panel .canvas))) ∧
      (panel .canvas).visible = true ∧ (panel .canvas).kind = .canvas ∧ (panel .text).kind ≠ .canvas ∧
      State.reset.screen.operation = none := by
  refine ⟨rfl, rfl, ?_⟩; decide

/-- A visible panel of each of two numbers that overlap, the upper one stale, and an operation in flight. -/
def stalePart (op : Option Operation) (queued : Nat) : State :=
  let lower : Panel := { panel .canvas with number := 0 }
  { State.reset with screen := { (drawing (.render blankPicture) queued).screen with
      active := [{ panel := lower, canvasCleared := true, counter := 7 },
                 { panel := panel .text, canvasCleared := false, counter := 0 }]
      staged := [lower, { panel .text with blink := true }]
      stale := [15]
      operation := op } }

theorem staleOk_stalePart (op : Option Operation) (queued : Nat) : StaleOk (stalePart op queued) := by
  refine ⟨by simp [Rising, stalePart, panel], by simp [Rising, stalePart], ?_⟩
  intro n h
  have : n = 15 := by simpa [stalePart] using h
  subst this
  exact ⟨_, rfl, rfl⟩

theorem witness_FramesAndPixels_stale :
    let s := stalePart (some (.render { blankPicture with panel := { panel .canvas with number := 0 } })) 1
    FrameOk s ∧ StaleOk s ∧ s.panel 0 ≠ none ∧ s.panel 1 = none ∧
      findBy Panel.number 15 s.screen.staged = some { panel .text with blink := true } ∧ 15 ∈ s.screen.stale ∧
      s.screen.queue.length = 1 ∧ (stalePart none 0).screen.operation = none ∧ s.screen.operation ≠ none := by
  refine ⟨rfl, staleOk_stalePart _ _, by decide, by decide, by decide, by decide, by decide, by decide, ?_⟩
  simp [stalePart]

theorem witness_TouchEvents_not_held : ∀ q, (State.reset.head .one).state ≠ .held q := by
  intro q; change HeadState.off ≠ _; simp

theorem witness_TouchEvents :
    State.reset.touch.pressed = false ∧ State.reset.touch.dimmed = false ∧ State.reset.topPanel 0 0 = none ∧
      (∀ k ∈ [PanelKind.text, .canvas, .head .one], (showing k).topPanel 0 0 =
        some { panel := panel k, canvasCleared := true, counter := 0 }) ∧
      (panel (.head .one)).x + (panel (.head .one)).effWidth / 2 ≤ 400 ∧
      399 < (panel (.head .one)).x + (panel (.head .one)).effWidth / 2 ∧ (showing .text).touch.supervisor = false ∧
      (bonding .tail).head1.state = .bonding ∧ State.reset.screen.backlight.dimTime = 0 ∧
      ({ Touch.reset false with pressed := true, dimmed := true }).pressed = true := by decide

theorem witness_CellResetKeeps :
    (headIn .bonding none).link.request = none ∧ (headIn .bonding none).head1.claim = some claim ∧
      (headIn .bonding none).unit 1 1 1 = some { unitIn (.claimed .one) with wiresDone := 1 } ∧
      claim.touched = false ∧ (unitIn (.claimed .one)).wiresDone = 0 ∧ State.reset.head1.claim = none ∧
      State.reset.head2.claim = none ∧ (busyGroup .input .scan).feed.input.state = .busy .scan ∧
      State.reset.head1.state = .off ∧ (headIn .bonding none).head1.state ≠ .off := by decide

theorem witness_FrameMemoryStaysCanonical :
    FrameOk State.reset ∧ StaleOk (stalePart none 1) ∧ step State.reset = .next State.reset.tick :=
  ⟨rfl, staleOk_stalePart _ _, rfl⟩

theorem witness_TablesStayWithinCapacity :
    TablesOk (stocked .exit (unitIn .bonded)) ∧
      step (stocked .exit (unitIn .bonded)) = .next (stocked .exit (unitIn .bonded)).tick := ⟨tablesOk_stocked.2, rfl⟩

/-- A class at the edges of the average law: E is 16 times its least result, its greatest the greatest there is. -/
def provenClass : WireClass := { wireClass .qualified with ewma := some 4800, least := some 300, greatest := some 2000 }
def provenPart : State := { State.reset with quality := { Quality.reset with classes := [provenClass] } }

theorem classesOk_provenPart : ClassesOk provenPart := by
  intro c hc
  have e : c = provenClass := by simpa [provenPart] using hc
  subst e
  refine ⟨by decide, ?_, ?_⟩
  · intro e he; cases he; exact ⟨300, 2000, rfl, rfl, by decide, by decide⟩
  · intro g hg; cases hg; decide

theorem witness_ClassesKeepAverageLaw : ClassesOk provenPart ∧ step provenPart = .next provenPart.tick :=
  ⟨classesOk_provenPart, rfl⟩

theorem witness_BondOrdersInRange :
    ClassesOk { provenPart with pending := [.atPosition .one] } ∧
      ∃ t, step { provenPart with pending := [.atPosition .one] } = .next t := ⟨classesOk_provenPart, _, rfl⟩

/-! ## Witnesses of the clauses over feed orders, grants and samples -/

/-- A strip in a zone, its group holding an order for a reason, and the columns from before an index known. -/
def heldOrder (loc : Location) (g : Group) (reason : HoldReason) (o : Order) : State :=
  let s := stocked loc (unitIn .pending)
  State.setGroup { s with feed := { s.feed with
      preheat := if loc = .preheat then some 1 else none
      window := if loc = .window then some 1 else none
      exit := if loc = .exit then some 1 else none
      beforeIndex := some (1, 2) } } g { state := .held reason, jammed := some o, timer := none, limit := 0 }

/-- The same with the order in flight. -/
def orderInFlight (loc : Location) (g : Group) (o : Order) : State :=
  (heldOrder loc g .jam o).setGroup g { state := .busy o, jammed := none, timer := some 5, limit := 5000 }

theorem witness_FeedClearOutcomes_orders :
    (∀ o ∈ [Order.index 8, .transferWindow], holdsOrder (heldOrder .window .track .jam o) .track .jam o ∧
      liesIn (heldOrder .window .track .jam o) .window 1 (strip .window (unitIn .pending)) ∧
      (heldOrder .window .track .jam o).feed.run = false) ∧
      (heldOrder .window .track .jam (.index 8)).feed.beforeIndex = some (1, 2) ∧
      (∀ g ∈ [Group.input, .output], ∀ reason ∈ [HoldReason.jam, .magazineLost],
        ∀ o ∈ [Order.scan, .elevate 20, .push 1], holdsOrder (heldOrder .departed g reason o) g reason o ∧
          (heldOrder .departed g reason o).link.request = none) ∧
      (∀ reason ∈ [HoldReason.jam, .magazineLost], ∀ o ∈ [Order.elevate 20, .push 20],
        liesIn (heldOrder .exit .output reason o) .exit 1 (strip .exit (unitIn .pending))) := by
  unfold holdsOrder liesIn; decide

theorem witness_FeedClearOutcomes_push_in :
    canPush (heldOrder .departed .input .jam (.push 20)) program ∧
      canPush (heldOrder .departed .input .magazineLost (.push 1)) program := by
  unfold canPush; decide

theorem witness_DoneEndsOrder_moves :
    (orderInFlight .departed .input .scan).feed.input.state = .busy .scan ∧
      (orderInFlight .departed .input (.push 20)).feed.input.state = .busy (.push 20) ∧
      canPush (orderInFlight .departed .input (.push 20)) program ∧
      (busyGroup .input (.push 20)).store.program = 0 ∧
      (orderInFlight .preheat .track .transferPreheat).feed.track.state = .busy .transferPreheat ∧
      liesIn (orderInFlight .preheat .track .transferPreheat) .preheat 1 (strip .preheat (unitIn .pending)) ∧
      (orderInFlight .window .track (.index 1)).feed.track.state = .busy (.index 1) ∧
      liesIn (orderInFlight .window .track .transferWindow) .window 1 (strip .window (unitIn .pending)) ∧
      (orderInFlight .window .track .transferWindow).feed.run = false := by
  unfold canPush liesIn; decide

/-- The clauses of window-left have tickets with 1 strip left and with 2, of different numbers. -/
theorem witness_WindowLeft :
    let ks := [{ ticket with number := 1, remaining := 1 }, { ticket with number := 2, remaining := 2 }]
    (ks.map Ticket.number).Nodup ∧ (ks.filter fun k => decide (2 ≤ k.remaining)).length = 1 ∧
      (ks.filter fun k => decide (k.remaining ≤ 1) && k.awaits 1).length = 1 := by decide

/-- The last wire of a unit at its end spark, with a sampling record and a claim's proving classes. -/
def sampled (armed : Bool) (proving : Option (List Nat)) (plan : Plan) (tickets : List Ticket) : State :=
  let s := bonding .endSpark
  { s with
    programs := [{ program with active := { copy with plan } }]
    quality := { s.quality with
      admission1 := proving, tickets
      sampling := [{ program := 1, sequence := 4294967295, armed, emptySelections := 0, missedSamples := 0 }] } }

theorem witness_WithdrawAndSampleNext_decision :
    let every := { period := 1, offset := 0, run := 1 }
    let never := { period := 1000, offset := 0, run := 1 }
    let s := sampled false none never []
    s.head1.state = .bonding ∧ s.head1.claim = some claim ∧ s.head1.step = some .endSpark ∧
      claim.wireCount ≤ claim.wire ∧ s.strip 1 = some (strip .window { unitIn (.claimed .one) with wiresDone := 1 }) ∧
      (s.program 1).map (·.active.wires) = some [wire] ∧ (s.sampling 1).isSome ∧
      s.unit 1 1 1 = some { unitIn (.claimed .one) with wiresDone := 1 } ∧
      planTest never false 4294967295 = false ∧ planTest every false 4294967295 = true ∧
      (s.admission .one).getD [] = [] ∧ ((sampled true (some [1]) every []).admission .one).getD [] = [1] ∧
      ((sampled true none never []).sampling 1).map Sampling.armed = some true ∧
      selection { copy with plan := every } .proving [1] ≠ [] ∧ selection copy .proving [2] = [] ∧
      (sampled false none every (List.replicate 32 ticket)).quality.tickets.length = 32 ∧
      s.quality.nextTicket < 4294967295 := by decide

/-- A strip of two units in the open window, the heads at rest. -/
def openWindow (u : UnitEntry) : State :=
  let s := stocked .window u
  { s with
    feed := { s.feed with window := some 1 }
    arbiter := { window := .opened 1 2, clearance := 1, first := .two } }

theorem entry_places {r : Strip} {c w : Nat} {u : UnitEntry} (e : r.entry c w = some u) :
    (1 ≤ c ∧ c ≤ r.columns) ∧ 1 ≤ w ∧ w ≤ r.rows := by
  unfold Strip.entry at e
  split at e
  · rename_i h
    simpa [Strip.holds, and_assoc] using h
  · cases e

/-- The track at rest before each of its moves: a strip in PREHEAT, in WINDOW with its last column to come and with
none, and in EXIT. -/
theorem witness_FeedRunState_track :
    liesIn (ready .preheat (unitIn .pending) 1) .preheat 1 { strip .preheat (unitIn .pending) with nextColumn := 1 } ∧
      (∀ next ∈ [1, 2, 3], liesIn (ready .window (unitIn .bonded) next) .window 1
        { strip .window (unitIn .bonded) with nextColumn := next }) ∧
      liesIn (ready .exit (unitIn .bonded) 3) .exit 1 (strip .exit (unitIn .bonded)) ∧
      (ready .window (unitIn .bonded) 3).feed.exit = none ∧ (ready .exit (unitIn .bonded) 3).feed.exit ≠ none ∧
      (ready .preheat (unitIn .pending) 1).feed.soak = .elapsed ∧
      (ready .window (unitIn .bonded) 3).feed.track.state = .idle := by
  unfold liesIn; decide

/-- The columns in force hold no PENDING and no CLAIMED unit, or the window is CLOSED. -/
theorem witness_FeedRunState_done :
    WindowDone (ready .window (unitIn .bonded) 2) { strip .window (unitIn .bonded) with nextColumn := 2 } ∧
      WindowDone (stocked .window (unitIn .pending)) (strip .window (unitIn .pending)) ∧
      ¬ WindowDone (ready .window (unitIn .pending) 3) (strip .window (unitIn .pending)) := by
  refine ⟨.inr ⟨1, 2, rfl, ?_⟩, .inl rfl, ?_⟩
  · intro c w u e _ _
    have p : (1 ≤ c ∧ c ≤ 2) ∧ 1 ≤ w ∧ w ≤ 1 := entry_places e
    obtain rfl : w = 1 := by omega
    obtain rfl | rfl : c = 1 ∨ c = 2 := by omega
    all_goals (cases e; simp [unitIn])
  · rintro (e | ⟨a, b, e, all⟩)
    · cases e
    · cases e
      exact (all 1 1 _ rfl (by decide) (by decide)).1 rfl

/-- The first candidate of an open window of PENDING units. -/
theorem firstUnit_openWindow (h : HeadId) :
    FirstUnit (Candidate (openWindow (unitIn .pending)) h (strip .window (unitIn .pending))) 1 1 := by
  refine ⟨⟨⟨_, rfl, rfl⟩, rfl, ?_⟩, ?_⟩
  · intro d e; cases h <;> cases e
  · rintro c w ⟨⟨u, e, _⟩, _⟩
    have := entry_places e
    omega

theorem witness_HeadEnableDisable_grant :
    let s := openWindow (unitIn .pending)
    s.link.request = none ∧ s.head1.state = .off ∧ s.head1.claim = none ∧ s.head2.asks = false ∧
      s.arbiter.window = .opened 1 2 ∧ liesIn s .window 1 (strip .window (unitIn .pending)) ∧ s.heater.gate ≠ .pass ∧
      (warm s).heater.gate = .pass ∧ (s.copyOfStrip 1).wires = [wire] ∧ s.cls 1 = some (wireClass .qualified) ∧
      (State.cls { s with quality := { s.quality with classes := [wireClass (.lapsed .overdue)] } } 1).isSome ∧
      ((wireClass .proving).state = .proving ∧ 0 < (wireClass .proving).budget) ∧
      (freeHead (.held .request)).head1.claim = none := by
  unfold liesIn; decide

/-- With every unit BONDED no candidate stands. -/
theorem witness_HeadEnableDisable_no_candidate (h : HeadId) (c w : Nat) :
    ¬ Candidate (openWindow (unitIn .bonded)) h (strip .window (unitIn .bonded)) c w := by
  rintro ⟨⟨u, e, hu⟩, _⟩
  have p := entry_places e
  have p1 : (1 ≤ c ∧ c ≤ 2) ∧ 1 ≤ w ∧ w ≤ 1 := p
  obtain rfl : w = 1 := by omega
  obtain rfl | rfl : c = 1 ∨ c = 2 := by omega
  all_goals (cases e; cases hu)

/-- Both heads stalled without a claim before an open window, and the second unit clear of the first. -/
theorem witness_HeadEnableDisable_contest :
    let s := ((openWindow (unitIn .pending)).setHead .one { Head.reset with state := .stalled .heater }).setHead .two
      { Head.reset with state := .stalled .noUnit }
    HeadId.two = s.arbiter.first ∧ s.heater.gate ≠ .pass ∧ s.cell.setPoint ≤ 400 + s.cell.window ∧
      400 ≤ s.cell.setPoint + s.cell.window ∧ s.head1.asks = true ∧ s.head2.asks = true ∧
      apart s.arbiter.clearance 2 1 = true ∧ (wireClass .qualified).state = .qualified ∧
      State.takesGrant s 1 { column := 3, row := 1 } = false ∧ [1].Nodup := by decide

theorem witness_AbortAndHeadReset_claims :
    (∀ r ∈ [HeldReason.spark, .request], (headIn (.held r) none).head1.state = .held r ∧
      (headIn (.held r) none).head1.claim = some claim ∧
      (headIn (.held r) none).head1.resume = some { wire := 1, entry := .start } ∧
      (headIn (.held r) none).unit 1 1 1 = some { unitIn (.claimed .one) with wiresDone := 1 }) ∧
      (headIn (.stalled .heater) none).head1.state = .stalled .heater ∧
      (headIn (.aborting .timeout) none).head1.state = .aborting .timeout ∧
      (headIn (.aborting .abort) none).head1.state = .aborting .abort ∧ claim.touched = false ∧
      (unitIn (.claimed .one)).wiresDone = 0 ∧ (headIn (.stalled .heater) none).head2.asks = false := by decide

/-- A head whose claim took one of the budget of class 1, in a state and step, with or without a touchdown. -/
def budgeted (st : HeadState) (step : Option Step) (touched : Bool) (wiresDone : Nat) (policy : MissPolicy) : State :=
  let s := headIn st step
  (({ s with
    store := { s.store with strips := [strip .window { unitIn (.claimed .one) with wiresDone }] }
    quality := { s.quality with
      admission1 := some [1]
      classes := [{ wireClass .proving with budget := 2, settings := { settings with missPolicy := policy } }] } }
      : State)).onHead .one fun r => { r with claim := some { claim with touched } }

theorem witness_claims_that_end :
    (∀ st ∈ [HeadState.bonding, .holding, .held .spark, .held .request, .stalled .heater, .aborting .timeout,
        .aborting .abort], ∀ touched ∈ [true, false], ∀ done ∈ [0, 599], ∀ policy ∈ [MissPolicy.stop, .continue_],
      let s := budgeted st (some .tail) touched done policy
      s.head1.state = st ∧ s.head1.claim = some { claim with touched } ∧
        s.unit 1 1 1 = some { unitIn (.claimed .one) with wiresDone := done } ∧ s.head1.stopTimer.isSome ∧
        s.head1.resume = some { wire := 1, entry := .start } ∧ s.admission .one = some [1] ∧ s.head2.asks = false ∧
        s.arbiter.window = .closed ∧ s.feed.run = false) ∧
      [1].Nodup ∧ (wireClass .proving).state = .proving ∧ 2 < settings.provingUnits := by decide

/-- A miss under either policy, with the run of fault units not full and full. -/
theorem witness_SparkAndMissEvents_policy :
    let s := budgeted .bonding (some .tail) true 0 .continue_
    s.head1.step = some .tail ∧ (s.cls (s.claimWire claim).cls).map (·.settings.missPolicy) = some .continue_ ∧
      count8 s.head1.faultRun < s.cell.missRun ∧ s.cell.missRun = 3 ∧ count8 1 < 3 ∧ 3 ≤ count8 2 := by decide

/-- What a change of each kind of record is made to, with an operation in flight and the feed and heads at rest. -/
theorem witness_FramesAndPixels_marked :
    let s := stocked .window (unitIn .pending)
    s.link.request = none ∧ s.feed.run = false ∧ s.head1.asks = false ∧ s.head2.asks = false ∧
      s.unit 1 1 1 = some (unitIn .pending) ∧ s.head1.state = .off ∧ (bonding .tail).head1.state = .bonding ∧
      (bonding .tail).head1.asks = false ∧ headOfNumber 1 = some .one ∧ s.cls 1 ≠ none ∧ 0 * 8 < 1 ∧ 8 ≤ 0 * 8 + 8 ∧
      ticketed.ticket 4294967295 = some ticket ∧
      ticketed.unit 1 1 1 = some { unitIn .bonded with pull := some (.ticketed .pending 4294967295) } ∧
      s.present .input = false ∧ s.present .output = false ∧
      (orderInFlight .exit .output (.push 1)).feed.output.state = .busy (.push 1) ∧
      (orderInFlight .exit .output (.push 1)).feed.exit = some 1 ∧ nth [OutSlot.empty] 1 = some .empty := by decide

/-- The panel on the whole screen that a press finds, over a part with one strip of two units in a zone. -/
def pressing (kind : PanelKind) (supervisor : Bool) (s : State) : State :=
  { s with
    screen := (showing kind).screen
    touch := Touch.reset supervisor }

theorem witness_TouchEvents_actions :
    let kinds := [PanelKind.zoneMap .window, .stripMap 1, .head .one, .classPage 1, .classPage 4, .tickets,
      .magazine .input, .magazine .output]
    let s := openWindow (unitIn .reject)
    (∀ k ∈ kinds, (pressing k true s).topPanel 400 240 =
      some { panel := panel k, canvasCleared := true, counter := 0 }) ∧
      s.shownStrip (.zoneMap .window) = some (strip .window (unitIn .reject)) ∧
      s.shownStrip (.stripMap 1) = some (strip .window (unitIn .reject)) ∧ s.shownStrip (.zoneMap .exit) = none ∧
      summarised (panel (.stripMap 1)) (strip .window (unitIn .reject)) = false ∧
      summarised { panel (.stripMap 1) with width := 1 } (strip .window (unitIn .reject)) = true ∧
      cellSize (panel (.stripMap 1)) (strip .window (unitIn .reject)) = (400, 480) ∧
      399 / 400 + 1 = 1 ∧ 799 / 400 + 1 ≤ 2 ∧
      2 < 40 / (cellSize { panel (.stripMap 1) with width := 41 } (strip .window (unitIn .reject))).1 + 1 ∧
      (strip .window (unitIn .reject)).entry 2 1 = some (unitIn .reject) ∧
      (headIn (.held .request) none).head1.state = .held .request ∧ (pressing (.head .one) true s).touch.supervisor ∧
      15 / 16 = 0 ∧ 16 / 16 = 1 ∧ 143 / 16 = 8 ∧ 144 / 16 = 9 := by decide

/-- Head 1 in a step of a wire with a bump, the second wire of its unit to come. -/
def bumped (step : Step) : State :=
  let s := warm (bonding step)
  { s with programs := [{ program with active := { copy with wires := [{ wire with bump := some bondSet }, wire] } }] }

theorem witness_AtPositionOrdersBond_bump :
    (bumped .bumpSeek).head1.step = some .bumpSeek ∧ (bumped .bumpSeek).head1.claim = some claim ∧
      ((bumped .bumpSeek).claimWire claim).bump = some bondSet ∧
      (bumped .bumpSeek).cls ((bumped .bumpSeek).claimWire claim).cls = some (wireClass .qualified) := by decide

theorem witness_SparkAndMissEvents_next_wire :
    let s := bumped .endSpark
    let c := { claim with wireCount := 2 }
    c.wire < c.wireCount ∧ s.unit 1 1 1 = some { unitIn (.claimed .one) with wiresDone := 1 } ∧
      s.heater.gate = .pass ∧ s.classLapsed (s.claimWire { c with wire := c.wire + 1 }).cls = false ∧
      s.head1.capillary.count + (if (s.claimWire { c with wire := c.wire + 1 }).bump.isSome then 3 else 2) ≤
        s.head1.capillary.life ∧ (bumped .bumpSpark).head1.step = some .bumpSpark := by decide

/-! ## Witnesses of the invariants -/

/-- A strip in WINDOW with a CLAIMED unit and a PENDING one, counted. -/
def workingStrip : Strip :=
  { strip .window (unitIn .pending) with
    units := [unitIn (.claimed .one), unitIn .pending]
    counts := { skip := 0, pending := 1, claimed := 1, bonded := 0, fault := 0, rework := 0, reject := 0 } }

/-- Head 1 at work on unit (1,1) of the strip in the open window. -/
def working : State :=
  let s := bonding .seekFirst
  { s with
    feed := { s.feed with window := some 1 }
    arbiter := { window := .opened 1 2, clearance := 1, first := .two }
    programs := [{ program with generation := 0 }]
    store := { s.store with strips := [workingStrip] } }

/-- A head that gives its unit up before an open window whose second unit is PENDING: that unit is its first candidate,
the other head asks for nothing, and its class is QUALIFIED or LAPSED. -/
theorem witness_SparkAndMissEvents_decided :
    let r := workingStrip
    liesIn working .window 1 r ∧ working.arbiter.window = .opened 1 2 ∧ working.head1.state = .bonding ∧
      working.head2.asks = false ∧ working.feed.run = false ∧ working.heater.gate ≠ .pass ∧
      (warm working).heater.gate = .pass ∧ (working.copyOfStrip 1).wires = [wire] ∧
      working.cls 1 = some (wireClass .qualified) ∧ FirstUnit (Candidate working .one r) 2 1 := by
  refine ⟨⟨rfl, rfl, rfl⟩, rfl, rfl, rfl, rfl, by decide, rfl, rfl, rfl, ⟨⟨_, rfl, rfl⟩, rfl, ?_⟩, ?_⟩
  · intro d e; cases e
  · rintro c w ⟨⟨u, e, hu⟩, _⟩
    have p : (1 ≤ c ∧ c ≤ 2) ∧ 1 ≤ w ∧ w ≤ 1 := entry_places e
    obtain rfl : w = 1 := by omega
    obtain rfl | rfl : c = 1 ∨ c = 2 := by omega
    · cases e; cases hu
    · omega

theorem stripKeysOk_working : StripKeysOk working := by
  refine ⟨by simp [Rising, working, bonding, headIn, stocked, State.setHead], by decide, by decide⟩

theorem partOk_working : PartOk working := by
  refine ⟨stripKeysOk_working, ⟨?_, ?_, ?_⟩, ⟨?_, ?_, ?_⟩, ?_, ?_⟩
  · intro z id e
    cases z <;> cases e
    exact ⟨_, rfl, rfl⟩
  · intro r hr z e
    have : r = workingStrip := by simpa [working] using hr
    subst this
    cases z <;> first | rfl | cases e
  · intro n id e
    have all : ∀ q ∈ working.feed.outSlots, q = .unknown := by decide
    unfold nth at e
    split at e
    · cases e
    · cases all _ (List.mem_of_getElem? e)
  · rintro o (e | e) <;> cases e
  · rintro o (e | e) <;> cases e
  · rintro o (e | e) <;> cases e
  · intro h c e
    cases h <;> cases e
    exact ⟨⟨_, rfl, rfl⟩, rfl, rfl⟩
  · intro c d _ e
    cases e

theorem capillaryOk_working : CapillaryOk working := by
  intro h
  cases h
  · refine ⟨by decide, ?_⟩
    intro st c _ e f
    cases e; cases f
    decide
  · refine ⟨by decide, ?_⟩
    intro st c _ e
    cases e

theorem witness_EveryStepAnswersNext :
    PartOk working ∧ working.store.nextStrip < 4294967295 ∧ CapillaryOk working ∧ step working = .next working.tick :=
  ⟨partOk_working, by decide, capillaryOk_working, rfl⟩

theorem budgetsOk_working : BudgetsOk working := by
  refine ⟨by decide, by decide⟩

theorem wiresOk_working : WiresOk working := by
  intro p hp
  have : p = { program with generation := 0 } := by simpa [working] using hp
  subst this
  refine ⟨by decide, ?_⟩
  intro c e; cases e

theorem keysOk_working : KeysOk working := by
  refine ⟨stripKeysOk_working, ⟨?_, by decide, by decide⟩, by decide, ⟨?_, by decide, by decide⟩,
    ⟨?_, by decide, by decide⟩, ⟨?_, by decide, by decide⟩, by decide, by decide⟩ <;>
    simp [Rising, working, bonding, headIn, stocked, State.setHead, State.reset, State.atPowerOn, Screen.reset,
      Quality.reset]

theorem tablesOk_working : TablesOk working := by
  refine ⟨?_, ?_, ?_, ?_, ?_⟩ <;> decide

theorem ticketsOk_working : TicketsOk working := by
  have pulls : ∀ id c r u, working.unit id c r = some u → u.pull = none := by
    intro id c r u e
    obtain ⟨s, hs, hu⟩ := Option.bind_eq_some_iff.mp e
    have hm := List.mem_of_find?_eq_some hs
    have : s = workingStrip := by simpa [working] using hm
    subst this
    unfold Strip.entry at hu
    split at hu
    · have := List.mem_of_getElem? hu
      simp [workingStrip] at this
      rcases this with rfl | rfl <;> rfl
    · cases hu
  have empty : working.quality.tickets = [] := rfl
  refine ⟨by rw [empty]; exact List.Pairwise.nil, ?_, ?_, ?_⟩
  · intro t h
    rw [empty] at h
    cases h
  · intro id c r u n e f
    rw [pulls id c r u e] at f
    cases f
  · intro id c r u e f
    exact absurd (pulls id c r u e) f

theorem witness_TablesStayWithinCapacity_keys :
    TablesOk working ∧ KeysOk working ∧ TicketsOk working ∧ working.store.nextStrip < 4294967295 ∧
      working.quality.nextTicket < 4294967295 ∧ step working = .next working.tick :=
  ⟨tablesOk_working, keysOk_working, ticketsOk_working, by decide, by decide, rfl⟩

theorem countsOk_working : CountsOk working := by
  intro r hr
  have : r = workingStrip := by simpa [working] using hr
  subst this
  exact ⟨rfl, rfl⟩

theorem generationsOk_working : GenerationsOk working := by
  refine ⟨?_, ?_⟩
  · intro r hr
    have : r = workingStrip := by simpa [working] using hr
    subst this
    exact fun e => by cases e
  · intro id r p e f g
    cases e; cases f; cases g
    rfl

theorem witness_TablesStayWithinCapacity_counts :
    TablesOk working ∧ PartOk working ∧ CountsOk working ∧ GenerationsOk working ∧
      working.store.nextStrip < 4294967295 ∧ step working = .next working.tick :=
  ⟨tablesOk_working, partOk_working, countsOk_working, generationsOk_working, by decide, rfl⟩

/-- A step from `working` that sends FIRST BOND. -/
theorem witness_EveryStepAnswersNext_bond :
    let t := after (exec (.atPosition .one) working)
    (sent t .one).length = 1 ∧ t.head1.step = some (.firstBond .contact) := by decide

theorem witness_ClassesKeepAverageLaw_budgets : BudgetsOk working ∧ step working = .next working.tick :=
  ⟨budgetsOk_working, rfl⟩

theorem witness_BondOrdersInRange_wires :
    WiresOk working ∧ ∃ t, step { working with pending := [.atPosition .one] } = .next t := ⟨wiresOk_working, _, rfl⟩

/-! ## Witnesses of the other clauses -/

/-- R185: what a transaction spells by its type byte. -/
theorem test_transaction_types :
    commandOfTransaction [0x5A] = some (.badFrame []) ∧ commandOfTransaction [0xA5, 0, 0] = some (.read 2) ∧
      commandOfTransaction [0x5B, 0] = some (.unknownTransaction 0x5B) := by decide

/-- R186: the kind, the code and the tag that a frame of four bytes leaves in the response. -/
theorem test_frame_cut_before_its_code :
    ((after (exec (.badFrame [0, 9, 7, 5]) State.reset)).link.response.map fun r => (r.kind, r.code, r.tag)) =
      some (7, 0, 5) := by decide

theorem witness_ReadingTablesChangesNothing_keys :
    working.link.request = none ∧ KeysOk working ∧ TicketsOk working := ⟨by decide, keysOk_working, ticketsOk_working⟩

/-- R185, R186 (log 17): a PUT of STRIP of one unit, its entry after the counts without a list count; it is LOCKED. -/
theorem test_put_of_strip :
    requestOfFrame ([0, 53, 3, 1, 2, 0, 0, 0, 1] ++ List.replicate 16 0 ++ [1, 1] ++ List.replicate 25 0 ++ [0xC2]) =
      some (.writeLocked 1 .stripPut) := by decide

theorem witness_TakeZeroesCounts_panel :
    (showing .canvas).panel 15 = some { panel := panel .canvas, canvasCleared := true, counter := 0 } ∧
      (showing .canvas).panel 0 = none ∧ (ticketed.ticket 4294967295).isSome ∧ (4294967295 : Nat) ≠ 0 := by decide

/-- A full table of departed strips, INPUT held for room in it, both magazines present and slots 1 and 3 LOADED. -/
def fullTable (run due : Bool) (preheat : Option Nat) : State :=
  let s := ready .departed (unitIn .bonded) 3
  { s with
    store := { s.store with
      strips := s.store.strips ++ List.replicate 63 { strip .departed (unitIn .bonded) with id := 2 } }
    feed := { s.feed with run, inScanDue := due, preheat, input := waiting .tableFull } }

theorem witness_RetireStripOutcomes_release :
    (∀ run ∈ [true, false], ∀ due ∈ [true, false], ∀ preheat ∈ [none, some 1],
      let s := fullTable run due preheat
      s.link.request = none ∧ s.feed.input = waiting .tableFull ∧ s.feed.run = run ∧ s.feed.inScanDue = due ∧
        s.feed.inPresent = true ∧ s.feed.preheat = preheat ∧ s.store.program ≠ 0 ∧
        s.program s.store.program ≠ none ∧ s.quality.tickets = []) ∧
      (fullTable true true none).store.strips.length = 64 ∧
      (fullTable true true none).strip 1 = some (strip .departed (unitIn .bonded)) ∧
      (ready .departed (unitIn .bonded) 3).store.strips.length < 64 ∧
      (busyGroup .input .scan).feed.input.state ≠ .idle := by decide

/-- R18: the retirement from a full table lets the ELEVATE of the next LOADED slot begin. -/
theorem test_retirement_releases_input :
    (after (exec (.retireStrip 1 1) (fullTable true false none))).out.track = [(.input, .elevate 1)] := by decide

theorem witness_FeedClearOutcomes_refused :
    (∀ reason ∈ [HoldReason.jam, .magazineLost], holdsOrder (heldOrder .departed .input reason (.push 1)) .input reason
      (.push 1) ∧ (heldOrder .departed .input reason (.push 1)).store.strips.length < 64) ∧
      State.reset.store.program = 0 ∧
      State.program { stocked .departed (unitIn .bonded) with programs := [] } 1 = none ∧
      64 ≤ (fullTable false false none).store.strips.length ∧
      holdsOrder (heldOrder .exit .output .magazineLost (.elevate 40)) .output .magazineLost (.elevate 40) ∧
      holdsOrder (heldOrder .departed .input .magazineLost (.elevate 40)) .input .magazineLost (.elevate 40) := by
  unfold holdsOrder; decide

theorem witness_PresenceLines_held :
    (∀ g ∈ [Group.input, .output], ∀ reason ∈ [HoldReason.jam, .magazineLost],
      ((heldOrder .departed g reason (.push 1)).group g).state = .held reason ∧
        ((heldOrder .departed g reason (.push 1)).group g).jammed = some (.push 1)) ∧
      (∀ reason ∈ [HoldReason.inputEmpty, .outputFull, .tableFull],
        ((lined true).setGroup .input (waiting reason)).feed.input.state = .held reason ∧
          ((lined true).setGroup .input (waiting reason)).feed.inPresent = true) ∧
      (busyGroup .input .scan).feed.inPresent = false ∧ (busyGroup .input .scan).feed.input.state ≠ .idle := by decide

theorem witness_ClassTableWrites_settings :
    let s := stocked .departed (unitIn .bonded)
    s.cls 1 = some (wireClass .qualified) ∧ s.cls 1 ≠ none ∧ s.link.request = none ∧ s.classUsed 2 = false ∧
      s.cls 2 = none ∧ classOk { settings with pMin := 600 } = true ∧ classOk { settings with pMin := 1001 } = false ∧
      classOk { settings with provingUnits := 1 } = true ∧ classOk { settings with provingUnits := 9 } = false ∧
      1 < (wireClass .proving).budget := by decide

/-- R120, R132: proving units below the budget lower it. -/
theorem test_proving_units_lower_the_budget :
    (((after (exec (.amendClass 1 1 [.provingUnits 1]) (budgeted .bonding (some .tail) false 0 .stop))).cls 1).map
      WireClass.budget) = some 1 := by decide

/-- R124: result 339 against a minimum of 300 and a band width of 20 counts in band 2. -/
theorem test_result_counts :
    ((classAt .watch 5920 9 1 0).takeResult 339 .heel).stats =
      { bands := [0, 0, 1, 0, 0, 0, 0, 0], ballLift := 0, neck := 0, span := 0, heel := 1, stitchLift := 0
        belowMin := 0, results := 1 } := by decide

/-- Ten bytes after 55h that name ticket 4294967295: a mode of 0, a wire not on it, a wire reported already. -/
theorem witness_GaugeFramesAnswered_verdicts :
    let frame := fun (wire mode check : Byte) => [0xFF, 0xFF, 0xFF, 0xFF, 0, wire, 1, 0xF4, mode, check]
    let frames := [frame 1 0 0xB9, frame 3 1 0xB6, frame 2 1 0xB7]
    (∀ bs ∈ frames, bs.length = 10 ∧ sumsToZero (0x55 :: bs) = true ∧
      ticketed.ticket (numberOf (bs.take 4)) = some ticket) ∧
      pullModeOfCode (numberOf (((frame 1 0 0xB9).drop 8).take 1)) = none ∧
      pullModeOfCode (numberOf (((frame 3 1 0xB6).drop 8).take 1)) ≠ none ∧
      (∀ w ∈ ticket.wires, w.wire ≠ numberOf (((frame 3 1 0xB6).drop 4).take 2)) ∧
      ((ticket.wires.find? fun w => w.wire == numberOf (((frame 2 1 0xB7).drop 4).take 2)).map TicketWire.reported) =
        some true ∧ (0x54 : Byte) ≠ 0x55 ∧ (0x56 : Byte) ≠ 0x55 := by decide

/-- R139, R140: of 65 wires the first 64 are chosen, and the last is not. -/
theorem witness_PlanTestByRemainder_sixty_five :
    let c := { copy with wires := List.replicate 65 wire }
    (selection c .proving [1]).length = 64 ∧ nth c.wires 65 = some wire ∧
      ∀ e ∈ selection c .proving [1], e.wire < 65 := by decide

theorem witness_SparkAndMissEvents_holding :
    let c := { claim with wireCount := 2 }
    let s := (bumped .endSpark).onHead .one fun r => { r with state := .holding, claim := some c }
    s.head1.state = .holding ∧ s.head1.step = some .endSpark ∧ s.head1.claim = some c ∧ c.wire < c.wireCount ∧
      s.unit 1 1 1 = some { unitIn (.claimed .one) with wiresDone := 1 } := by decide

theorem witness_StrayAndDriveFault_out_of_step :
    (bonding .tail).head1.step = some .tail ∧ .bondDone .one ∉ awaited .one .tail ∧
      .contact .one ∉ awaited .one (.firstBond .bondDone) ∧ .stopped .one ∉ awaited .one .tail ∧
      .attached .one ∈ awaited .one .tail ∧ (freeHead (.aborting .abort)).head1.claim = none := by decide

theorem witness_PanelColourBacklightWrites_fields :
    let b := bodyOf (panel .canvas)
    panelOf 15 { b with x := 8 } = some { panel .canvas with x := 8 } ∧ panelOf 15 { b with x := 4 } = none ∧
      panelOf 15 { b with kind := 6, text := [] } = some (panel .text) ∧ 15 < 16 ∧ 15 ≤ 15 ∧ 16 < 17 := by decide

/-- The panel 15 is to move, to be hidden, to be retired or to stay, an operation in flight on it or none. -/
def applying (staged : List Panel) (op : Option Operation) : State :=
  { stalePart op 0 with screen := { (stalePart op 0).screen with
      active := (stalePart op 0).screen.active.map fun a => { a with panel := { a.panel with width := 8, height := 8 } }
      staged
      frame := [⟨0, 5⟩] } }

/-- R156: the old area of a panel that is hidden, retired or moved is cleared; the panel under it is stale. -/
theorem test_frame_start_clears :
    let upper : Panel := { panel .text with width := 8, height := 8 }
    let lower := { upper with number := 0, kind := .canvas }
    ∀ staged ∈ [[lower, { upper with visible := false }], [lower], [lower, { upper with x := 8 }]],
      let t := after (exec .frameStart (applying staged (some (.draw { dot with panel := 0 } none))))
      t.screen.frame = [] ∧ t.screen.stale.head? = some 0 ∧ t.screen.operation.isSome := by decide

/-- R156: the render of a panel that is retired is cancelled, and the engine chooses. -/
theorem test_frame_start_cancels :
    let upper : Panel := { panel .text with width := 8, height := 8 }
    let lower := { upper with number := 0, kind := .canvas }
    let s := applying [lower] (some (.render { blankPicture with panel := upper }))
    let t := after (exec .frameStart s)
    t.screen.operation = some (.render { blankPicture with panel := lower }) ∧ t.screen.stale = [] := by decide

/-- R161: the pixels of a strip map of cells 8 by 16: the fill, the border of a pull part PENDING, the gap. -/
theorem test_map_pixels :
    let u := { unitIn .bonded with pull := some (.ticketed .pending 1) }
    let p := { panel (.stripMap 1) with width := 16, height := 16 }
    let pic := (stocked .departed u).picture p
    [(0, 0), (3, 3), (7, 3), (3, 15), (6, 3), (8, 3)].map (fun q => pic.index q.1 q.2) = [8, 5, 0, 0, 8, 8] := by decide

theorem witness_CellResetKeeps_orders :
    (∀ o ∈ [Order.index 1, .transferWindow],
      (orderInFlight .window .track o).feed.track.state = .busy o ∧
        (orderInFlight .window .track o).feed.window = some 1 ∧
        (orderInFlight .window .track o).strip 1 = some (strip .window (unitIn .pending))) ∧
      (budgeted .bonding (some .tail) false 0 .stop).admission .one = some [1] ∧ [1].Nodup ∧
      ((budgeted .bonding (some .tail) false 0 .stop).cls 1).map WireClass.budget = some 2 := by decide

/-- The claim of the one head with a claim is of a unit CLAIMED by it. -/
theorem witness_CellResetKeeps_claims :
    ∀ h c, ((budgeted .bonding (some .tail) false 0 .stop).head h).claim = some c →
      ∃ u, (budgeted .bonding (some .tail) false 0 .stop).unit c.strip c.column c.row = some u ∧
        u.state = .claimed h := by
  intro h c e
  cases h <;> cases e
  exact ⟨_, rfl, rfl⟩

/-- R19, R43, R72: cell reset holds the order in flight, ends the motion of its strip and gives the budget back. -/
theorem test_cell_reset_holds_and_gives_back :
    let t := after (exec (.cellReset 1) (budgeted .bonding (some .tail) false 0 .stop))
    let u := after (exec (.cellReset 1) (orderInFlight .window .track (.index 1)))
    (t.cls 1).map WireClass.budget = some 3 ∧ (t.unit 1 1 1).map UnitEntry.state = some .pending ∧
      u.feed.track = { state := .held .jam, jammed := some (.index 1), timer := none, limit := 0 } := by decide

/-- R185: a last computation in a write of HEATER has marker bytes 0 or 1, and no other. -/
theorem test_computation_marks :
    let record := fun clamp excursion : Byte => 1 :: List.replicate 24 (0 : Byte) ++ [clamp, excursion]
    (heaterField 11 (record 1 1)).isSome = true ∧ heaterField 12 (record 2 0) = none ∧
      heaterField 11 (record 0 2) = none ∧ (heaterField 11 (List.replicate 27 0)).isSome = true := by decide

/-- R159: a DRAW taken while no operation is in flight is begun at once. -/
theorem test_draw_while_idle :
    let t := after (exec (.draw 1 15 15 (.circle 0 0 0 1)) (showing .canvas))
    t.screen.operation = some (.draw dot (some (panel .canvas))) ∧ t.screen.queue = [] := by decide

theorem witness_DrawsQueuedAndCleared_idle :
    (showing .canvas).screen.operation = none ∧ (showing .canvas).screen.queue ++ [dot] = dot :: [] ∧
      (showing .canvas).link.request = none ∧ shapeOk dot.shape = true := by decide

/-- R113: head 1's first FIRST BOND leaves its last computation record. -/
theorem test_bond_order_recorded :
    let t := after (exec (.atPosition .one) working)
    (t.heater.computation1.map fun k => (k.kind, k.wire, k.p1, k.power, k.time)) = some (.first, 1, 400, 390, 80) := by
  decide

/-- R188: the bytes of a STOPPED frame after a stray byte make the event, and the receiver waits again. -/
theorem test_frame_arrives :
    let t := State.arriveAll State.reset (.head .one) [0, 0x7E, 4, 0x88, 0xF6]
    (t.pending, t.receivers.head1) = ([.stopped .one], []) := by decide

end Sys2Proof.Tests
end

section
/-!
The temperature power (R112): the integer quotient the model takes, the range of its factor 4,096 + g × d for a gain and
a deviation in their ranges, and the power that follows from both.
-/
namespace Sys2Proof.Machine

/-- The quotient of R112 is taken of a number that is not negative wherever the factor 4,096 + g × d is not. -/
theorem temperaturePower_cast {p1 g : Nat} {d : Int} (h : 0 ≤ 4096 + (g : Int) * d) :
    (temperaturePower p1 g d : Int) = ((p1 : Int) * (4096 + g * d) + 2048) / 4096 := by
  have product : 0 ≤ (p1 : Int) * (4096 + g * d) := mul_nonneg (Int.natCast_nonneg p1) h
  exact Int.toNat_of_nonneg (by omega)

/-- The power is the quotient rounded half up: 4,096 of it lie within 2,048 of P1 × (4,096 + g × d) (R112). -/
theorem temperaturePower_half_up {p1 g : Nat} {d : Int} (h : 0 ≤ 4096 + (g : Int) * d) :
    4096 * (temperaturePower p1 g d : Int) ≤ p1 * (4096 + g * d) + 2048 ∧
      p1 * (4096 + g * d) + 2048 < 4096 * ((temperaturePower p1 g d : Int) + 1) := by
  rw [temperaturePower_cast h]
  omega

/-- A gain up to 64 and a deviation of −40 to 40 move the factor by at most 64 × 40 = 2,560. -/
theorem temperatureFactor_bounds {g : Nat} {d : Int} (gain : g ≤ 64) (low : -40 ≤ d) (high : d ≤ 40) :
    1536 ≤ 4096 + (g : Int) * d ∧ 4096 + (g : Int) * d ≤ 6656 := by
  have moved : |(g : Int) * d| ≤ 64 * 40 := by
    rw [abs_mul, Nat.abs_cast]
    exact mul_le_mul (by exact_mod_cast gain) (abs_le.mpr ⟨low, high⟩) (abs_nonneg d) (by decide)
  obtain ⟨below, above⟩ := abs_le.mp moved
  omega

/-- The largest power and the largest factor give 2,113. -/
theorem temperaturePower_le {p1 g : Nat} {d : Int} (power : p1 ≤ 1300) (h : 0 ≤ 4096 + (g : Int) * d)
    (top : 4096 + (g : Int) * d ≤ 6656) : temperaturePower p1 g d ≤ 2113 := by
  have product : (p1 : Int) * (4096 + g * d) ≤ 1300 * 6656 :=
    mul_le_mul (by exact_mod_cast power) top h (by decide)
  have ⟨quotient, _⟩ := temperaturePower_half_up (p1 := p1) h
  omega

/-- Without a gain or without a deviation the power stays what wear made of it. -/
theorem temperaturePower_of_mul_eq_zero {p1 g : Nat} {d : Int} (h : (g : Int) * d = 0) :
    temperaturePower p1 g d = p1 := by
  have ⟨low, high⟩ := temperaturePower_half_up (p1 := p1) (g := g) (d := d) (by omega)
  rw [h] at low high
  omega

/-- Settles O46: the factor's range makes the quotient one of a number that is not negative, and its bounds follow. -/
theorem temperaturePowerRounds : Obligations.TemperaturePowerRounds := by
  intro p1 g d
  refine ⟨fun gain low high => ?_, fun still => ?_, by decide⟩
  · obtain ⟨bottom, top⟩ := temperatureFactor_bounds gain low high
    have nonneg : 0 ≤ 4096 + (g : Int) * d := by omega
    obtain ⟨lower, upper⟩ := temperaturePower_half_up (p1 := p1) nonneg
    exact ⟨lower, upper, bottom, top, fun power => temperaturePower_le power nonneg top⟩
  · exact temperaturePower_of_mul_eq_zero (mul_eq_zero.mpr (still.imp_left Int.natCast_eq_zero.mpr))

end Sys2Proof.Machine
end

section
/-!
The moves of the class table: every change that an operation of the part can make to it, and the two laws of the table
that each of them keeps (R117, R118, R122, R132, R133).
-/
namespace Sys2Proof.Machine

open Sys2Proof.Safety

/-! ## Lists kept by a key -/

/-- The record found by a key is of the list and carries the key. -/
theorem findBy_eq_some {α : Type} {key : α → Nat} {k : Nat} {rs : List α} {r : α} (found : findBy key k rs = some r) :
    r ∈ rs ∧ key r = k :=
  ⟨List.mem_of_find?_eq_some found, by simpa using List.find?_some found⟩

/-- With no key twice, the record found by a key is the only one that carries it. -/
theorem eq_of_findBy {α : Type} {key : α → Nat} {k : Nat} {rs : List α} {r q : α} (distinct : (rs.map key).Nodup)
    (found : findBy key k rs = some r) (mem : q ∈ rs) (carries : key q = k) : q = r := by
  obtain ⟨of, is⟩ := findBy_eq_some found
  exact List.inj_on_of_nodup_map distinct mem of (carries.trans is.symm)

/-- With no record found, none carries the key. -/
theorem findBy_eq_none {α : Type} {key : α → Nat} {k : Nat} {rs : List α} (absent : findBy key k rs = none) :
    ∀ r ∈ rs, key r ≠ k := by
  simpa [findBy] using absent

/-- A property of every record holds after a change of one key that gives it to the records of that key. -/
theorem forall_updateBy {α : Type} {key : α → Nat} {k : Nat} {f : α → α} {rs : List α} {P : α → Prop}
    (all : ∀ r ∈ rs, P r) (changed : ∀ r ∈ rs, key r = k → P (f r)) : ∀ r ∈ updateBy key k f rs, P r := by
  intro r mem
  obtain ⟨q, of, rfl⟩ := List.mem_map.mp mem
  split
  · exact changed q of ‹_›
  · exact all q of

/-- A change that gives its key to every record of that key leaves the keys. -/
theorem map_key_updateBy {α : Type} {key : α → Nat} {k : Nat} {f : α → α} (rs : List α)
    (keeps : ∀ r, key r = k → key (f r) = k) : (updateBy key k f rs).map key = rs.map key := by
  simp only [updateBy, List.map_map]
  refine List.map_congr_left fun r _ => ?_
  simp only [Function.comp]
  split
  · exact (keeps r ‹_›).trans (Eq.symm ‹_›)
  · rfl

/-- A record inserted under a new key joins the list and replaces none. -/
theorem insertBy_perm {α : Type} {key : α → Nat} {r : α} {rs : List α} (absent : ∀ q ∈ rs, key q ≠ key r) :
    (insertBy key r rs).Perm (r :: rs) := by
  induction rs with
  | nil => exact .refl _
  | cons q rest ih =>
    obtain ⟨differs, others⟩ := List.forall_mem_cons.mp absent
    unfold insertBy
    split
    · exact .refl _
    · rw [if_neg differs.symm]
      exact ((ih others).cons q).trans (.swap r q rest)

/-! ## Results and the average law -/

/-- The step of the average goes from E toward 16x and not past it, for every shift from 1 up (R123). -/
theorem ewmaStep_between {e k x : Nat} (shift : 1 ≤ k) :
    min e (16 * x) ≤ ewmaStep (some e) k x ∧ ewmaStep (some e) k x ≤ max e (16 * x) := by
  obtain ⟨j, rfl⟩ := Nat.exists_eq_add_of_le' shift
  have half : (0 : Int) < 2 ^ j := by positivity
  have whole : (2 : Int) ^ (j + 1) = 2 * 2 ^ j := pow_succ' 2 j
  simp only [ewmaStep, Nat.add_sub_cancel, whole]
  generalize (2 : Int) ^ j = p at half
  have low : 0 ≤ 16 * (x : Int) - e → 0 ≤ (16 * (x : Int) - e + p) / (2 * p) ∧
      (16 * (x : Int) - e + p) / (2 * p) ≤ 16 * x - e := fun up =>
    ⟨Int.ediv_nonneg (by omega) (by omega), Int.lt_add_one_iff.mp (Int.ediv_lt_of_lt_mul (by omega) (by nlinarith))⟩
  have high : 16 * (x : Int) - e ≤ 0 → 16 * (x : Int) - e ≤ (16 * (x : Int) - e + p) / (2 * p) ∧
      (16 * (x : Int) - e + p) / (2 * p) ≤ 0 := fun down =>
    ⟨Int.le_ediv_of_mul_le (by omega) (by nlinarith),
      Int.lt_add_one_iff.mp (Int.ediv_lt_of_lt_mul (by omega) (by linarith))⟩
  generalize (16 * (x : Int) - e + p) / (2 * p) = q at low high
  omega

/-- The examination under the rules of the states writes the state and consecutive good alone (R126 to R129). -/
theorem WireClass.examine_frame (c : WireClass) (x : Nat) :
    (c.examine x).id = c.id ∧ (c.examine x).settings = c.settings ∧ (c.examine x).ewma = c.ewma ∧
      (c.examine x).budget = c.budget ∧ (c.examine x).least = c.least ∧ (c.examine x).greatest = c.greatest := by
  unfold WireClass.examine
  repeat' split
  all_goals exact ⟨rfl, rfl, rfl, rfl, rfl, rfl⟩

/-- An overdue notice writes the state and consecutive good alone (R129). -/
theorem WireClass.takeNotice_frame (c : WireClass) :
    c.takeNotice.id = c.id ∧ c.takeNotice.settings = c.settings ∧ c.takeNotice.ewma = c.ewma ∧
      c.takeNotice.budget = c.budget ∧ c.takeNotice.least = c.least ∧ c.takeNotice.greatest = c.greatest := by
  unfold WireClass.takeNotice
  split <;> exact ⟨rfl, rfl, rfl, rfl, rfl, rfl⟩

/-- A result leaves the id, the settings and the budget, and widens the extremes to hold it (R122, R124). -/
theorem WireClass.takeResult_frame (c : WireClass) (x : Nat) (m : PullMode) :
    (c.takeResult x m).id = c.id ∧ (c.takeResult x m).settings = c.settings ∧ (c.takeResult x m).budget = c.budget ∧
      (c.takeResult x m).least = some (c.least.elim x (min x)) ∧
      (c.takeResult x m).greatest = some (c.greatest.elim x (max x)) := by
  unfold WireClass.takeResult
  simp only
  split
  · exact ⟨rfl, rfl, rfl, rfl, rfl⟩
  · obtain ⟨id, settings, -, budget, least, greatest⟩ := ((c.countResult x m).runResult x).examine_frame x
    exact ⟨id, settings, budget, least, greatest⟩

/-- A result leaves the EWMA, in LAPSED, or moves it by the step of R123. -/
theorem WireClass.takeResult_ewma (c : WireClass) (x : Nat) (m : PullMode) :
    (c.takeResult x m).ewma = c.ewma ∨ (c.takeResult x m).ewma = some (ewmaStep c.ewma c.settings.shift x) := by
  unfold WireClass.takeResult
  simp only
  split
  · exact .inl rfl
  · obtain ⟨-, -, ewma, -⟩ := ((c.countResult x m).runResult x).examine_frame x
    exact .inr ewma

/-- The average law reads the EWMA and the extremes alone. -/
theorem averageLaw_congr {c d : WireClass} (ewma : d.ewma = c.ewma) (least : d.least = c.least)
    (greatest : d.greatest = c.greatest) (law : AverageLaw c) : AverageLaw d := by
  simpa only [AverageLaw, ewma, least, greatest] using law

/-- A class without an EWMA and without extremes keeps the average law. -/
theorem averageLaw_of_none {c : WireClass} (ewma : c.ewma = none) (greatest : c.greatest = none) : AverageLaw c := by
  simp [AverageLaw, ewma, greatest]

/-- The law from its two bounds, for a class whose extremes are known. -/
theorem averageLaw_of_bounds {c : WireClass} {l g : Nat} (least : c.least = some l) (greatest : c.greatest = some g)
    (bounds : ∀ e, c.ewma = some e → 16 * l ≤ e ∧ e ≤ 16 * g) (top : g ≤ 2000) : AverageLaw c := by
  refine ⟨fun e ewma => ⟨l, g, least, greatest, bounds e ewma⟩, fun g' is => ?_⟩
  cases greatest.symm.trans is
  exact top

/-- A result of at most 2,000 keeps the average law under every shift from 1 up: the extremes widen to hold the result,
and the EWMA stays, or begins at 16x, or moves toward 16x (R133). -/
theorem averageLaw_takeResult {c : WireClass} {x : Nat} (m : PullMode) (shift : 1 ≤ c.settings.shift) (force : x ≤ 2000)
    (law : AverageLaw c) : AverageLaw (c.takeResult x m) := by
  obtain ⟨bounds, top⟩ := law
  obtain ⟨-, -, -, least, greatest⟩ := c.takeResult_frame x m
  refine averageLaw_of_bounds least greatest (fun e after => ?_) ?_
  · cases before : c.ewma with
    | none =>
      have begun : e = 16 * x := by
        obtain kept | moved := c.takeResult_ewma x m
        · rw [after, before] at kept; cases kept
        · rw [after, before] at moved; exact Option.some.inj moved
      cases c.least <;> cases c.greatest <;> simp only [Option.elim] <;> omega
    | some e₀ =>
      obtain ⟨l, g, hl, hg, below, above⟩ := bounds e₀ before
      have toward : min e₀ (16 * x) ≤ e ∧ e ≤ max e₀ (16 * x) := by
        obtain kept | moved := c.takeResult_ewma x m
        · rw [after, before] at kept; cases kept; omega
        · rw [after, before] at moved; cases moved; exact ewmaStep_between shift
      simp only [hl, hg, Option.elim]
      omega
  · cases hg : c.greatest with
    | none => exact force
    | some g => exact max_le force (top g hg)

/-! ## The moves -/

/-- What one operation of the part can make of the class table: an admission takes a budget and the end of a claim gives
one back, a result or an overdue notice reaches a class, REQUALIFY, a TAKE, the three writes, and power-on reset
(R66, R72, R119 to R122, R129, R130, R134). -/
inductive ClassMove (cs : List WireClass) : List WireClass → Prop
  | admission (id : Nat) : ClassMove cs (updateBy WireClass.id id (fun c => { c with budget := c.budget - 1 }) cs)
  | giveBack {id : Nat} {c : WireClass} (found : findBy WireClass.id id cs = some c)
      (room : c.budget < c.settings.provingUnits) :
      ClassMove cs (updateBy WireClass.id id (fun c => { c with budget := c.budget + 1 }) cs)
  | result {id x : Nat} {c : WireClass} (m : PullMode) (found : findBy WireClass.id id cs = some c) (force : x ≤ 2000) :
      ClassMove cs (updateBy WireClass.id id (fun _ => c.takeResult x m) cs)
  | notice {id : Nat} {c : WireClass} (found : findBy WireClass.id id cs = some c) :
      ClassMove cs (updateBy WireClass.id id (fun _ => c.takeNotice) cs)
  | requalify (id : Nat) : ClassMove cs (updateBy WireClass.id id WireClass.requalified cs)
  | take (id : Nat) : ClassMove cs (updateBy WireClass.id id (fun c => { c with stats := .taken }) cs)
  | put {id : Nat} {t : ClassSettings} (absent : findBy WireClass.id id cs = none) (ok : classOk t = true) :
      ClassMove cs (insertBy WireClass.id (newClass id t) cs)
  | amend {id : Nat} {c : WireClass} {t : ClassSettings} {named : Bool} (found : findBy WireClass.id id cs = some c)
      (ok : classOk t = true) (same : named = false → t.provingUnits = c.settings.provingUnits) :
      ClassMove cs (updateBy WireClass.id id (fun c =>
        { c with settings := t, budget := if named then min c.budget t.provingUnits else c.budget }) cs)
  | retire (id : Nat) : ClassMove cs (removeBy WireClass.id id cs)
  | reset : ClassMove cs []

/-- One class table comes of another by moves. -/
abbrev ClassRun : List WireClass → List WireClass → Prop := Relation.ReflTransGen ClassMove

/-! ## The law of each class -/

/-- A class is consistent with its settings in range, and keeps the average law. -/
def ClassLaw (c : WireClass) : Prop := classOk c.settings = true ∧ AverageLaw c

/-- The smoothing shift of a class in range is 1 or more (R117). -/
theorem one_le_shift_of_classOk {t : ClassSettings} (ok : classOk t = true) : 1 ≤ t.shift := by
  simp only [classOk, inRange, Bool.and_eq_true, decide_eq_true_eq] at ok
  omega

/-- Each move keeps the law of every class. -/
theorem ClassMove.classLaw {cs ds : List WireClass} (move : ClassMove cs ds) (law : ∀ c ∈ cs, ClassLaw c) :
    ∀ c ∈ ds, ClassLaw c := by
  cases move with
  | admission id => exact forall_updateBy law fun c mem _ => law c mem
  | giveBack found room => exact forall_updateBy law fun c mem _ => law c mem
  | @result id x c m found force =>
    obtain ⟨ok, average⟩ := law c (findBy_eq_some found).1
    obtain ⟨-, settings, -⟩ := c.takeResult_frame x m
    exact forall_updateBy law fun _ _ _ =>
      ⟨settings ▸ ok, averageLaw_takeResult m (one_le_shift_of_classOk ok) force average⟩
  | @notice id c found =>
    obtain ⟨ok, average⟩ := law c (findBy_eq_some found).1
    obtain ⟨-, settings, ewma, -, least, greatest⟩ := c.takeNotice_frame
    exact forall_updateBy law fun _ _ _ => ⟨settings ▸ ok, averageLaw_congr ewma least greatest average⟩
  | requalify id => exact forall_updateBy law fun c mem _ => ⟨(law c mem).1, averageLaw_of_none rfl rfl⟩
  | take id => exact forall_updateBy law fun c mem _ => law c mem
  | put absent ok =>
    intro c mem
    obtain rfl | of := List.mem_cons.mp ((insertBy_perm (findBy_eq_none absent)).mem_iff.mp mem)
    · exact ⟨ok, averageLaw_of_none rfl rfl⟩
    · exact law c of
  | amend found ok same => exact forall_updateBy law fun c mem _ => ⟨ok, (law c mem).2⟩
  | retire id => exact fun c mem => law c (List.mem_of_mem_filter mem)
  | reset => exact fun c mem => absurd mem List.not_mem_nil

/-! ## The budgets -/

/-- No two classes carry one id, and no class has more budget than its proving units. -/
def BudgetLaw (cs : List WireClass) : Prop :=
  (cs.map WireClass.id).Nodup ∧ ∀ c ∈ cs, c.budget ≤ c.settings.provingUnits

/-- A change of the classes of an id that keeps the id, and each budget within its proving units, keeps the law. -/
theorem BudgetLaw.updateBy {cs : List WireClass} {id : Nat} {f : WireClass → WireClass} (law : BudgetLaw cs)
    (keeps : ∀ c, c.id = id → (f c).id = id)
    (within : ∀ c ∈ cs, c.id = id → (f c).budget ≤ (f c).settings.provingUnits) :
    BudgetLaw (updateBy WireClass.id id f cs) :=
  ⟨(map_key_updateBy cs keeps).symm ▸ law.1, forall_updateBy law.2 within⟩

/-- Each move keeps every budget within its proving units. -/
theorem ClassMove.budgetLaw {cs ds : List WireClass} (move : ClassMove cs ds) (law : BudgetLaw cs) : BudgetLaw ds := by
  obtain ⟨distinct, within⟩ := law
  cases move with
  | admission id =>
    exact BudgetLaw.updateBy ⟨distinct, within⟩ (fun _ is => is) fun c mem _ => (Nat.sub_le _ _).trans (within c mem)
  | giveBack found room =>
    refine BudgetLaw.updateBy ⟨distinct, within⟩ (fun _ is => is) fun c mem is => ?_
    cases eq_of_findBy distinct found mem is
    exact room
  | @result id x c m found force =>
    obtain ⟨of, is⟩ := findBy_eq_some found
    obtain ⟨same, settings, budget, -⟩ := c.takeResult_frame x m
    exact BudgetLaw.updateBy ⟨distinct, within⟩ (fun _ _ => same.trans is) fun _ _ _ => by
      rw [settings, budget]; exact within c of
  | @notice id c found =>
    obtain ⟨of, is⟩ := findBy_eq_some found
    obtain ⟨same, settings, -, budget, -⟩ := c.takeNotice_frame
    exact BudgetLaw.updateBy ⟨distinct, within⟩ (fun _ _ => same.trans is) fun _ _ _ => by
      rw [settings, budget]; exact within c of
  | requalify id => exact BudgetLaw.updateBy ⟨distinct, within⟩ (fun _ is => is) fun _ _ _ => le_rfl
  | take id => exact BudgetLaw.updateBy ⟨distinct, within⟩ (fun _ is => is) fun c mem _ => within c mem
  | @put id t absent ok =>
    have others : ∀ c ∈ cs, c.id ≠ (newClass id t).id := findBy_eq_none absent
    have joined := insertBy_perm others
    refine ⟨(joined.map WireClass.id).nodup_iff.mpr (List.nodup_cons.mpr ⟨?_, distinct⟩), fun c mem => ?_⟩
    · simpa using others
    · obtain rfl | of := List.mem_cons.mp (joined.mem_iff.mp mem)
      · exact le_rfl
      · exact within c of
  | @amend id c t named found ok same =>
    refine BudgetLaw.updateBy ⟨distinct, within⟩ (fun _ is => is) fun d mem is => ?_
    cases eq_of_findBy distinct found mem is
    cases named with
    | true => exact min_le_right _ _
    | false => exact (same rfl).symm ▸ within _ mem
  | retire id =>
    exact ⟨distinct.sublist (List.filter_sublist.map _), fun c mem => within c (List.mem_of_mem_filter mem)⟩
  | reset => exact ⟨List.nodup_nil, fun c mem => absurd mem List.not_mem_nil⟩

/-- What each move keeps, any number of moves keep. -/
theorem ClassRun.keeps {P : List WireClass → Prop} (move : ∀ {cs ds}, ClassMove cs ds → P cs → P ds)
    {cs ds : List WireClass} (run : ClassRun cs ds) (holds : P cs) : P ds := by
  induction run with
  | refl => exact holds
  | tail _ last ih => exact move last ih

end Sys2Proof.Machine
end

section
/-!
What leaves the class table as it is: every operation of the part but those that make one of its moves. One fact per
operation, in the order of the model's files, each by the branches of the operation.
-/
namespace Sys2Proof.Machine

/-- The class table of a state chosen by a test. -/
@[simp] theorem State.classes_ite (p : Prop) [Decidable p] (s t : State) :
    (if p then s else t).quality.classes = if p then s.quality.classes else t.quality.classes :=
  apply_ite (·.quality.classes) p s t

/-- The state an owner answers with, the answer chosen by a test. -/
@[simp] theorem State.snd_ite {α : Type} (p : Prop) [Decidable p] (a b : α × State) :
    (if p then a else b).2 = if p then a.2 else b.2 := apply_ite Prod.snd p a b

/-- A fold of steps that leave the class table leaves it. -/
@[simp] theorem State.classes_foldl {α : Type} (f : State → α → State)
    (leaves : ∀ s a, (f s a).quality.classes = s.quality.classes) (l : List α) (s : State) :
    (l.foldl f s).quality.classes = s.quality.classes := by
  induction l generalizing s with
  | nil => rfl
  | cons a l ih => rw [List.foldl_cons, ih, leaves]

/-! ## Panels -/

@[simp] theorem State.classes_markPanels (s : State) (p : Panel → Bool) :
    (s.markPanels p).quality.classes = s.quality.classes := by simp [State.markPanels]
@[simp] theorem State.classes_markStrip (s : State) (id : Nat) :
    (s.markStrip id).quality.classes = s.quality.classes := s.classes_markPanels _
@[simp] theorem State.classes_markZone (s : State) (z : Zone) :
    (s.markZone z).quality.classes = s.quality.classes := s.classes_markPanels _
@[simp] theorem State.classes_markMaps (s : State) :
    s.markMaps.quality.classes = s.quality.classes := s.classes_markPanels _
@[simp] theorem State.classes_markHead (s : State) (h : HeadId) :
    (s.markHead h).quality.classes = s.quality.classes := s.classes_markPanels _
@[simp] theorem State.classes_markClass (s : State) (id : Nat) :
    (s.markClass id).quality.classes = s.quality.classes := s.classes_markPanels _
@[simp] theorem State.classes_markTickets (s : State) :
    s.markTickets.quality.classes = s.quality.classes := s.classes_markPanels _
@[simp] theorem State.classes_markMagazine (s : State) (d : Side) :
    (s.markMagazine d).quality.classes = s.quality.classes := s.classes_markPanels _
@[simp] theorem State.classes_markAll (s : State) :
    s.markAll.quality.classes = s.quality.classes := s.classes_markPanels _

/-! ## Strips -/

@[simp] theorem State.classes_writeUnit (s : State) (id c r : Nat) (old new : UnitState) (f : Option FaultPart) :
    (s.writeUnit id c r old new f).quality.classes = s.quality.classes := by simp [State.writeUnit]
@[simp] theorem State.classes_reportBegun (s : State) (id : Nat) :
    (s.reportBegun id).quality.classes = s.quality.classes := rfl
@[simp] theorem State.classes_reportAbandoned (s : State) (id : Nat) :
    (s.reportAbandoned id).quality.classes = s.quality.classes := rfl
@[simp] theorem State.classes_reportEntry (s : State) (id g : Nat) :
    (s.reportEntry id g).quality.classes = s.quality.classes := rfl
@[simp] theorem State.classes_reportExit (s : State) (id : Nat) :
    (s.reportExit id).quality.classes = s.quality.classes := rfl
@[simp] theorem State.classes_reportOutput (s : State) (id n : Nat) :
    (s.reportOutput id n).quality.classes = s.quality.classes := rfl
@[simp] theorem State.classes_reportMagazineGone (s : State) (id : Nat) :
    (s.reportMagazineGone id).quality.classes = s.quality.classes := by fun_cases State.reportMagazineGone s id <;> simp
@[simp] theorem State.classes_reportRemoved (s : State) (id : Nat) :
    (s.reportRemoved id).quality.classes = s.quality.classes := by
  fun_cases State.reportRemoved s id <;> simp +zetaDelta
@[simp] theorem State.classes_createStrip (s : State) (n : Nat) (skip : List Pos) :
    (s.createStrip n skip).2.2.quality.classes = s.quality.classes := by fun_cases State.createStrip s n skip <;> rfl
@[simp] theorem State.classes_reportWireEnd (s : State) (h : HeadId) (id c r : Nat) :
    (s.reportWireEnd h id c r).2.quality.classes = s.quality.classes := by
  fun_cases State.reportWireEnd s h id c r <;> rfl
@[simp] theorem State.classes_writePull (s : State) (id c r : Nat) (old new : Option PullPart) :
    (s.writePull id c r old new).2.quality.classes = s.quality.classes := by
  fun_cases State.writePull s id c r old new <;> simp

/-! ## Programs and loop shapes -/

@[simp] theorem State.classes_changeCopy (s : State) (p : Program) (c : ProgramCopy) :
    (s.changeCopy p c).2.quality.classes = s.quality.classes := by simp [State.changeCopy]
@[simp] theorem State.classes_putProgram (s : State) (id : Nat) (b : ProgramBody) :
    (s.putProgram id b).2.quality.classes = s.quality.classes := by simp [State.putProgram]
@[simp] theorem State.classes_amendProgram (s : State) (id : Nat) (fs : List ProgramField) :
    (s.amendProgram id fs).2.quality.classes = s.quality.classes := by fun_cases State.amendProgram s id fs <;> simp
@[simp] theorem State.classes_retireProgram (s : State) (id : Nat) :
    (s.retireProgram id).2.quality.classes = s.quality.classes := by simp [State.retireProgram]
@[simp] theorem State.classes_putWire (s : State) (p i : Nat) (w : Wire) :
    (s.putWire p i w).2.quality.classes = s.quality.classes := by fun_cases State.putWire s p i w <;> simp
@[simp] theorem State.classes_amendWire (s : State) (p i : Nat) (fs : List WireField) :
    (s.amendWire p i fs).2.quality.classes = s.quality.classes := by fun_cases State.amendWire s p i fs <;> simp
@[simp] theorem State.classes_retireWire (s : State) (p i : Nat) :
    (s.retireWire p i).2.quality.classes = s.quality.classes := by fun_cases State.retireWire s p i <;> simp
@[simp] theorem State.classes_programApply (s : State) (id : Nat) :
    (s.programApply id).2.quality.classes = s.quality.classes := by fun_cases State.programApply s id <;> rfl
@[simp] theorem State.classes_writeLoop (s : State) (n : Nat) (l : Option LoopShape) :
    (s.writeLoop n l).2.quality.classes = s.quality.classes := by fun_cases State.writeLoop s n l <;> rfl
@[simp] theorem State.classes_putLoop (s : State) (n : Nat) (b : LoopBody) :
    (s.putLoop n b).2.quality.classes = s.quality.classes := by fun_cases State.putLoop s n b <;> simp
@[simp] theorem State.classes_amendLoop (s : State) (n : Nat) (fs : List LoopField) :
    (s.amendLoop n fs).2.quality.classes = s.quality.classes := by fun_cases State.amendLoop s n fs <;> simp

/-! ## Samples and tickets -/

@[simp] theorem State.classes_classChanged (s : State) (id : Nat) :
    (s.classChanged id).quality.classes = s.quality.classes := by simp [State.classChanged]
@[simp] theorem State.classes_issueTicket (s : State) (t : Ticket) :
    (s.issueTicket t).quality.classes = s.quality.classes := by simp [State.issueTicket]
@[simp] theorem State.classes_sampleUnit (s : State) (h : HeadId) (r : Strip) (c w : Nat) :
    (s.sampleUnit h r c w).quality.classes = s.quality.classes := by
  unfold State.sampleUnit
  simp only
  repeat' split
  all_goals simp
@[simp] theorem State.classes_dropTicket (s : State) (n : Nat) :
    (s.dropTicket n).quality.classes = s.quality.classes := rfl
@[simp] theorem State.classes_closeTicket (s : State) (t : Ticket) (st : PullStatus) :
    (s.closeTicket t st).quality.classes = s.quality.classes := by simp [State.closeTicket]
@[simp] theorem State.classes_onResults (s : State) (f : ResultCounts → ResultCounts) :
    (s.onResults f).quality.classes = s.quality.classes := rfl
@[simp] theorem State.classes_withdraw (s : State) (n : Nat) :
    (s.withdraw n).2.quality.classes = s.quality.classes := by fun_cases State.withdraw s n <;> simp
@[simp] theorem State.classes_sampleNext (s : State) (id : Nat) :
    (s.sampleNext id).2.quality.classes = s.quality.classes := by simp [State.sampleNext]
@[simp] theorem State.classes_lotStart (s : State) (lot : Nat) :
    (s.lotStart lot).quality.classes = s.quality.classes := rfl
@[simp] theorem State.classes_retireStrip (s : State) (id : Nat) :
    (s.retireStrip id).2.quality.classes = s.quality.classes := by fun_cases State.retireStrip s id <;> simp +zetaDelta

/-! ## Heads -/

@[simp] theorem State.classes_resetReceiver (s : State) (h : HeadId) :
    (s.resetReceiver h).quality.classes = s.quality.classes := by cases h <;> rfl
@[simp] theorem State.classes_enter (s : State) (h : HeadId) (st : HeadState) :
    (s.enter h st).quality.classes = s.quality.classes := by simp [State.enter]
@[simp] theorem State.classes_goIdle (s : State) (h : HeadId) :
    (s.goIdle h).quality.classes = s.quality.classes := by simp [State.goIdle]
@[simp] theorem State.classes_clearClaim (s : State) (h : HeadId) :
    (s.clearClaim h).quality.classes = s.quality.classes := by simp [State.clearClaim]
@[simp] theorem State.classes_stray (s : State) (h : HeadId) :
    (s.stray h).quality.classes = s.quality.classes := by simp [State.stray]
@[simp] theorem State.classes_inStep (s : State) (h : HeadId) (st : Step) (ms : Nat) :
    (s.inStep h st ms).quality.classes = s.quality.classes := by simp [State.inStep]
@[simp] theorem State.classes_sendSpark (s : State) (h : HeadId) :
    (s.sendSpark h).quality.classes = s.quality.classes := by simp [State.sendSpark]
@[simp] theorem State.classes_enterSpark (s : State) (h : HeadId) (st : Step) :
    (s.enterSpark h st).quality.classes = s.quality.classes := by simp [State.enterSpark]
@[simp] theorem State.classes_settingsFor (s : State) (h : HeadId) (k : Computation) :
    (s.settingsFor h k).quality.classes = s.quality.classes := by simp [State.settingsFor]
@[simp] theorem State.classes_enterBond (s : State) (h : HeadId) (c : Claim) (k : BondKind) :
    (s.enterBond h c k).quality.classes = s.quality.classes := by cases k <;> simp [State.enterBond]
@[simp] theorem State.classes_enterSeek (s : State) (h : HeadId) (st : Step) (p : Point) :
    (s.enterSeek h st p).quality.classes = s.quality.classes := by simp [State.enterSeek]
@[simp] theorem State.classes_enterLooping (s : State) (h : HeadId) (c : Claim) :
    (s.enterLooping h c).quality.classes = s.quality.classes := by simp [State.enterLooping]
@[simp] theorem State.classes_enterTail (s : State) (h : HeadId) (c : Claim) (st : Step) :
    (s.enterTail h c st).quality.classes = s.quality.classes := by simp [State.enterTail]
@[simp] theorem State.classes_beginWire (s : State) (h : HeadId) :
    (s.beginWire h).quality.classes = s.quality.classes := by fun_cases State.beginWire s h <;> simp +zetaDelta
@[simp] theorem State.classes_afterWire (s : State) (h : HeadId) (kept : Bool) :
    (s.afterWire h kept).quality.classes = s.quality.classes := by simp [State.afterWire]
@[simp] theorem State.classes_touchdown (s : State) (h : HeadId) (c : Claim) (st : Step) (b : Bool) :
    (s.touchdown h c st b).quality.classes = s.quality.classes := by simp [State.touchdown]
@[simp] theorem State.classes_beginAborting (s : State) (h : HeadId) (k : AbortCause) :
    (s.beginAborting h k).quality.classes = s.quality.classes := by simp [State.beginAborting]
@[simp] theorem State.classes_stepTimeout (s : State) (h : HeadId) :
    (s.stepTimeout h).quality.classes = s.quality.classes := by simp [State.stepTimeout]
@[simp] theorem State.classes_enableHead (s : State) (h : HeadId) :
    (s.enableHead h).2.quality.classes = s.quality.classes := by fun_cases State.enableHead s h <;> simp
@[simp] theorem State.classes_disableHead (s : State) (h : HeadId) :
    (s.disableHead h).2.quality.classes = s.quality.classes := by fun_cases State.disableHead s h <;> simp
@[simp] theorem State.classes_holdHead (s : State) (h : HeadId) :
    (s.holdHead h).2.quality.classes = s.quality.classes := by fun_cases State.holdHead s h <;> simp
@[simp] theorem State.classes_newCapillary (s : State) (h : HeadId) :
    (s.newCapillary h).2.quality.classes = s.quality.classes := by simp [State.newCapillary]
@[simp] theorem State.classes_resetHead (s : State) (h : HeadId) :
    (s.resetHead h).2.quality.classes = s.quality.classes := by fun_cases State.resetHead s h <;> simp
@[simp] theorem State.classes_resumeHead (s : State) (h : HeadId) :
    (s.resumeHead h).2.quality.classes = s.quality.classes := by fun_cases State.resumeHead s h <;> simp +zetaDelta
@[simp] theorem State.classes_amendHead (s : State) (h : HeadId) (fs : List HeadField) :
    (s.amendHead h fs).2.quality.classes = s.quality.classes := by simp [State.amendHead]
@[simp] theorem State.classes_cellResetHead (s : State) (h : HeadId) :
    (s.cellResetHead h).quality.classes = s.quality.classes := by fun_cases State.cellResetHead s h <;> simp +zetaDelta
@[simp] theorem State.classes_releaseStalled (s : State) (h : HeadId) :
    (s.releaseStalled h).quality.classes = s.quality.classes := by simp [State.releaseStalled]
@[simp] theorem State.classes_evaluateGate (s : State) : s.evaluateGate.quality.classes = s.quality.classes := rfl
@[simp] theorem State.classes_judgeGate (s : State) :
    s.judgeGate.quality.classes = s.quality.classes := by simp [State.judgeGate]

/-! ## The arbiter and the feed -/

@[simp] theorem State.classes_claimUnit (s : State) (h : HeadId) (id : Nat) (p : Pos) :
    (s.claimUnit h id p).quality.classes = s.quality.classes := by simp [State.claimUnit]
@[simp] theorem State.classes_openWindow (s : State) (a b : Nat) :
    (s.openWindow a b).quality.classes = s.quality.classes := rfl
@[simp] theorem State.classes_windowIndexing (s : State) : s.windowIndexing.quality.classes = s.quality.classes := rfl
@[simp] theorem State.classes_closeWindow (s : State) : s.closeWindow.quality.classes = s.quality.classes := rfl
@[simp] theorem State.classes_beginOrder (s : State) (g : Group) (o : Order) :
    (s.beginOrder g o).quality.classes = s.quality.classes := by fun_cases State.beginOrder s g o <;> simp +zetaDelta
@[simp] theorem State.classes_dueGroup (s : State) (g : Group) :
    (s.dueGroup g).quality.classes = s.quality.classes := by cases g <;> rfl
@[simp] theorem State.classes_idleGroup (s : State) (g : Group) :
    (s.idleGroup g).quality.classes = s.quality.classes := by simp [State.idleGroup]
@[simp] theorem State.classes_holdGroup (s : State) (g : Group) (r : HoldReason) :
    (s.holdGroup g r).quality.classes = s.quality.classes := by simp [State.holdGroup]
@[simp] theorem State.classes_jamGroup (s : State) (g : Group) (r : HoldReason) (o : Order) :
    (s.jamGroup g r o).quality.classes = s.quality.classes := by simp [State.jamGroup]
@[simp] theorem State.classes_onInSlot (s : State) (n : Nat) (f : InSlot → InSlot) :
    (s.onInSlot n f).quality.classes = s.quality.classes := by simp [State.onInSlot]
@[simp] theorem State.classes_setOutSlot (s : State) (n : Nat) (v : OutSlot) :
    (s.setOutSlot n v).quality.classes = s.quality.classes := by simp [State.setOutSlot]
@[simp] theorem State.classes_setZone (s : State) (z : Zone) (id : Option Nat) :
    (s.setZone z id).quality.classes = s.quality.classes := by cases z <;> simp [State.setZone]
@[simp] theorem State.classes_setSoak (s : State) (v : Soak) : (s.setSoak v).quality.classes = s.quality.classes := rfl
@[simp] theorem State.classes_freeInTarget (s : State) : s.freeInTarget.quality.classes = s.quality.classes := rfl
@[simp] theorem State.classes_freeOutTarget (s : State) : s.freeOutTarget.quality.classes = s.quality.classes := rfl
@[simp] theorem State.classes_examineInput (s : State) :
    s.examineInput.quality.classes = s.quality.classes := by fun_cases State.examineInput s <;> rfl
@[simp] theorem State.classes_beginIndex (s : State) (n : Nat) :
    (s.beginIndex n).quality.classes = s.quality.classes := by simp [State.beginIndex]
@[simp] theorem State.classes_examineTrack (s : State) :
    s.examineTrack.quality.classes = s.quality.classes := by fun_cases State.examineTrack s <;> simp
@[simp] theorem State.classes_examineOutput (s : State) :
    s.examineOutput.quality.classes = s.quality.classes := by fun_cases State.examineOutput s <;> simp
@[simp] theorem State.classes_pushedIn (s : State) (n : Nat) (skip : List Pos) :
    (s.pushedIn n skip).2.quality.classes = s.quality.classes := by
  have made := s.classes_createStrip n skip
  unfold State.pushedIn
  simp only
  split <;> simp_all
@[simp] theorem State.classes_completePushIn (s : State) (n : Nat) :
    (s.completePushIn n).2.quality.classes = s.quality.classes := by
  have pushed := s.classes_pushedIn n (s.slotMap n)
  unfold State.completePushIn
  split <;> simp_all
@[simp] theorem State.classes_completeEntry (s : State) :
    s.completeEntry.quality.classes = s.quality.classes := by fun_cases State.completeEntry s <;> simp +zetaDelta
@[simp] theorem State.classes_completeIndex (s : State) (n : Nat) :
    (s.completeIndex n).quality.classes = s.quality.classes := by fun_cases State.completeIndex s n <;> rfl
@[simp] theorem State.classes_endPushOut (s : State) :
    s.endPushOut.quality.classes = s.quality.classes := by simp [State.endPushOut]
@[simp] theorem State.classes_completePushOut (s : State) (n : Nat) :
    (s.completePushOut n).quality.classes = s.quality.classes := by
  fun_cases State.completePushOut s n <;> simp +zetaDelta
@[simp] theorem State.classes_feedJam (s : State) (g : Group) :
    (s.feedJam g).quality.classes = s.quality.classes := by fun_cases State.feedJam s g <;> simp
@[simp] theorem State.classes_orderTimeout (s : State) (g : Group) :
    (s.orderTimeout g).quality.classes = s.quality.classes := by fun_cases State.orderTimeout s g <;> simp
@[simp] theorem State.classes_slotSeen (s : State) (g : Group) (n : Nat) (b : Bool) :
    (s.slotSeen g n b).quality.classes = s.quality.classes := by
  unfold State.slotSeen
  split <;> simp
@[simp] theorem State.classes_presenceRise (s : State) (d : Side) :
    (s.presenceRise d).quality.classes = s.quality.classes := by
  cases d <;> simp [State.presenceRise]
@[simp] theorem State.classes_loseMagazine (s : State) (g : Group) :
    (s.loseMagazine g).quality.classes = s.quality.classes := by fun_cases State.loseMagazine s g <;> simp
@[simp] theorem State.classes_presenceFall (s : State) (d : Side) :
    (s.presenceFall d).quality.classes = s.quality.classes := by
  cases d <;> simp [State.presenceFall]
@[simp] theorem State.classes_soakElapsed (s : State) :
    s.soakElapsed.quality.classes = s.quality.classes := by fun_cases State.soakElapsed s <;> rfl
@[simp] theorem State.classes_removeFrom (s : State) (z : Zone) :
    (s.removeFrom z).quality.classes = s.quality.classes := by fun_cases State.removeFrom s z <;> simp
@[simp] theorem State.classes_abandonIn (s : State) (z : Zone) :
    (s.abandonIn z).quality.classes = s.quality.classes := by fun_cases State.abandonIn s z <;> rfl
@[simp] theorem State.classes_scanAgain (s : State) (g : Group) (b : Bool) :
    (s.scanAgain g b).quality.classes = s.quality.classes := by cases g <;> rfl
@[simp] theorem State.classes_jamSlot (s : State) (n : Nat) :
    (s.jamSlot n).quality.classes = s.quality.classes := by simp [State.jamSlot]
@[simp] theorem State.classes_giveUpPushOut (s : State) (d : Disposition) :
    (s.giveUpPushOut d).quality.classes = s.quality.classes := by cases d <;> simp [State.giveUpPushOut]
@[simp] theorem State.classes_clearSide (s : State) (g : Group) (o : Order) (d : Disposition) :
    (s.clearSide g o d).2.quality.classes = s.quality.classes := by fun_cases State.clearSide s g o d <;> simp
@[simp] theorem State.classes_clearLost (s : State) (g : Group) (o : Order) (d : Disposition) :
    (s.clearLost g o d).2.quality.classes = s.quality.classes := by fun_cases State.clearLost s g o d <;> simp
@[simp] theorem State.classes_feedStop (s : State) : s.feedStop.quality.classes = s.quality.classes := rfl
@[simp] theorem State.classes_feedRun (s : State) : s.feedRun.quality.classes = s.quality.classes := rfl
@[simp] theorem State.classes_writeInslot (s : State) (n : Nat) (st : Status) (f : InSlot → InSlot) :
    (s.writeInslot n st f).2.quality.classes = s.quality.classes := by simp [State.writeInslot]
@[simp] theorem State.classes_writeFeedField (s : State) (f : CellFeedField) :
    (s.writeFeedField f).quality.classes = s.quality.classes := by cases f <;> simp [State.writeFeedField]
@[simp] theorem State.classes_amendCellFeed (s : State) (fs : List CellFeedField) :
    (s.amendCellFeed fs).2.quality.classes = s.quality.classes := by simp [State.amendCellFeed]
@[simp] theorem State.classes_cellResetGroup (s : State) (g : Group) :
    (s.cellResetGroup g).quality.classes = s.quality.classes := by
  unfold State.cellResetGroup
  split
  · simp only
    split <;> simp
  · rfl
@[simp] theorem State.classes_cellResetFeed (s : State) :
    s.cellResetFeed.quality.classes = s.quality.classes := by simp [State.cellResetFeed]

/-! ## The screen and the touch interface -/

@[simp] theorem State.classes_paintPanel (s : State) (p : Panel) (f : Nat → Nat → Byte → Byte) :
    (s.paintPanel p f).quality.classes = s.quality.classes := rfl
@[simp] theorem State.classes_onPanel (s : State) (n : Nat) (f : ActivePanel → ActivePanel) :
    (s.onPanel n f).quality.classes = s.quality.classes := rfl
@[simp] theorem State.classes_chooseOperation (s : State) :
    s.chooseOperation.quality.classes = s.quality.classes := by fun_cases State.chooseOperation s <;> rfl
@[simp] theorem State.classes_renderComplete (s : State) :
    s.renderComplete.quality.classes = s.quality.classes := by fun_cases State.renderComplete s <;> simp +zetaDelta
@[simp] theorem State.classes_drawComplete (s : State) :
    s.drawComplete.quality.classes = s.quality.classes := by fun_cases State.drawComplete s <;> rfl
@[simp] theorem State.classes_giveWay (s : State) :
    s.giveWay.quality.classes = s.quality.classes := by fun_cases State.giveWay s <;> simp
@[simp] theorem State.classes_draw (s : State) (p i : Nat) (d : DrawShape) :
    (s.draw p i d).2.quality.classes = s.quality.classes := by simp [State.draw]
@[simp] theorem State.classes_clearScreen (s : State) :
    s.clearScreen.2.quality.classes = s.quality.classes := by simp [State.clearScreen]
@[simp] theorem State.classes_cellResetScreen (s : State) :
    s.cellResetScreen.quality.classes = s.quality.classes := by simp [State.cellResetScreen]
@[simp] theorem State.classes_clearOld (s : State) (c : PanelChange) :
    (s.clearOld c).quality.classes = s.quality.classes := by fun_cases State.clearOld s c <;> rfl
@[simp] theorem State.classes_copyRecord (s : State) (c : PanelChange) :
    (s.copyRecord c).quality.classes = s.quality.classes := by simp [State.copyRecord]
@[simp] theorem State.classes_markChange (s : State) (c : PanelChange) :
    (s.markChange c).quality.classes = s.quality.classes := by simp [State.markChange]
@[simp] theorem State.classes_cancelFor (s : State) (cs : List PanelChange) :
    (s.cancelFor cs).quality.classes = s.quality.classes := by fun_cases State.cancelFor s cs <;> rfl
@[simp] theorem State.classes_frameStart (s : State) : s.frameStart.quality.classes = s.quality.classes := by
  simp [State.frameStart, State.applyPanels]
@[simp] theorem State.classes_putPanel (s : State) (n : Nat) (b : PanelBody) :
    (s.putPanel n b).2.quality.classes = s.quality.classes := by fun_cases State.putPanel s n b <;> rfl
@[simp] theorem State.classes_amendPanel (s : State) (n : Nat) (fs : List PanelField) :
    (s.amendPanel n fs).2.quality.classes = s.quality.classes := by fun_cases State.amendPanel s n fs <;> rfl
@[simp] theorem State.classes_retirePanel (s : State) (n : Nat) :
    (s.retirePanel n).2.quality.classes = s.quality.classes := by fun_cases State.retirePanel s n <;> rfl
@[simp] theorem State.classes_writeColour (s : State) (f : ColourField) :
    (s.writeColour f).quality.classes = s.quality.classes := by cases f <;> rfl
@[simp] theorem State.classes_amendColours (s : State) (fs : List ColourField) :
    (s.amendColours fs).2.quality.classes = s.quality.classes := by simp [State.amendColours]
@[simp] theorem State.classes_writeBacklight (s : State) (f : BacklightField) :
    (s.writeBacklight f).quality.classes = s.quality.classes := by fun_cases State.writeBacklight s f <;> rfl
@[simp] theorem State.classes_amendBacklight (s : State) (fs : List BacklightField) :
    (s.amendBacklight fs).2.quality.classes = s.quality.classes := by simp [State.amendBacklight]
@[simp] theorem State.classes_recordAction (s : State) (n : Nat) (a : TouchAction) (st : Status) :
    (s.recordAction n a st).quality.classes = s.quality.classes := by simp [State.recordAction]
@[simp] theorem State.classes_dimTimeout (s : State) :
    s.dimTimeout.quality.classes = s.quality.classes := by simp [State.dimTimeout]

/-! ## The CELL record, the ports and the record link -/

@[simp] theorem State.classes_writeStripField (s : State) (f : CellStripField) :
    (s.writeStripField f).quality.classes = s.quality.classes := by cases f <;> rfl
@[simp] theorem State.classes_amendCellStrip (s : State) (fs : List CellStripField) :
    (s.amendCellStrip fs).2.quality.classes = s.quality.classes := by fun_cases State.amendCellStrip s fs <;> simp
@[simp] theorem State.classes_amendCellWindow (s : State) (fs : List CellWindowField) :
    (s.amendCellWindow fs).2.quality.classes = s.quality.classes := by simp [State.amendCellWindow]
@[simp] theorem State.classes_amendCellMissRun (s : State) (n : Nat) :
    (s.amendCellMissRun n).2.quality.classes = s.quality.classes := by simp [State.amendCellMissRun]
@[simp] theorem State.classes_amendCellDueCount (s : State) (n : Nat) :
    (s.amendCellDueCount n).2.quality.classes = s.quality.classes := by simp [State.amendCellDueCount]
@[simp] theorem State.classes_amendCellHeater (s : State) (fs : List CellHeaterField) :
    (s.amendCellHeater fs).2.quality.classes = s.quality.classes := by simp [State.amendCellHeater]
@[simp] theorem State.classes_takeReading (s : State) (f : HeaterFrame) :
    (s.takeReading f).quality.classes = s.quality.classes := by cases f <;> simp [State.takeReading]
@[simp] theorem State.classes_freshnessExpiry (s : State) :
    s.freshnessExpiry.quality.classes = s.quality.classes := by fun_cases State.freshnessExpiry s <;> simp
@[simp] theorem State.classes_verdict (s : State) (v : Verdict) :
    (s.verdict v).quality.classes = s.quality.classes := by simp [State.verdict]
@[simp] theorem State.classes_badGaugeFrame (s : State) :
    s.badGaugeFrame.quality.classes = s.quality.classes := by simp [State.badGaugeFrame]
@[simp] theorem State.classes_gaugeExpiry (s : State) :
    s.gaugeExpiry.quality.classes = s.quality.classes := by fun_cases State.gaugeExpiry s <;> rfl
@[simp] theorem State.classes_cellResetHeater (s : State) :
    s.cellResetHeater.quality.classes = s.quality.classes := by simp [State.cellResetHeater]
@[simp] theorem State.classes_onLink (s : State) (f : Link → Link) :
    (s.onLink f).quality.classes = s.quality.classes := rfl
@[simp] theorem State.classes_onCounts (s : State) (f : LinkCounts → LinkCounts) :
    (s.onCounts f).quality.classes = s.quality.classes := rfl
@[simp] theorem State.classes_requestTransaction (s : State) :
    s.requestTransaction.quality.classes = s.quality.classes := rfl
@[simp] theorem State.classes_overrun (s : State) : s.overrun.quality.classes = s.quality.classes := rfl
@[simp] theorem State.classes_discardUnread (s : State) :
    s.discardUnread.quality.classes = s.quality.classes := by fun_cases State.discardUnread s <;> rfl
@[simp] theorem State.classes_takeFrame (s : State) (tag kind code : Nat) :
    (s.takeFrame tag kind code).quality.classes = s.quality.classes := by simp [State.takeFrame]
@[simp] theorem State.classes_place (s : State) (r : Response) : (s.place r).quality.classes = s.quality.classes := rfl
@[simp] theorem State.classes_responsePlaced (s : State) :
    s.responsePlaced.quality.classes = s.quality.classes := by fun_cases State.responsePlaced s <;> rfl
@[simp] theorem State.classes_badRequest (s : State) (frame : List Byte) :
    (s.badRequest frame).quality.classes = s.quality.classes := by
  fun_cases State.badRequest s frame <;> simp +zetaDelta
@[simp] theorem State.classes_unknownTransaction (s : State) :
    s.unknownTransaction.quality.classes = s.quality.classes := rfl
@[simp] theorem State.classes_readLink (s : State) (n : Nat) :
    (s.readLink n).quality.classes = s.quality.classes := by fun_cases State.readLink s n <;> rfl
@[simp] theorem State.classes_overrunFrame (s : State) :
    s.overrunFrame.quality.classes = s.quality.classes := by fun_cases State.overrunFrame s <;> rfl
@[simp] theorem State.classes_amendAttention (s : State) (fs : List AttentionField) :
    (s.amendAttention fs).2.quality.classes = s.quality.classes := by
  unfold State.amendAttention
  split
  · rfl
  · split
    · rfl
    · exact State.classes_foldl _ (fun _ f => by cases f <;> rfl) _ _
@[simp] theorem State.classes_clearAttention (s : State) (n : Nat) :
    (s.clearAttention n).2.quality.classes = s.quality.classes := by simp [State.clearAttention]

/-- A head named by its number, whose owner leaves the class table. -/
@[simp] theorem State.classes_onHeadNumber (s : State) (n : Nat) (st : Status) (f : State → HeadId → Status × State)
    (leaves : ∀ h, (f s h).2.quality.classes = s.quality.classes) :
    (s.onHeadNumber n st f).2.quality.classes = s.quality.classes := by
  fun_cases State.onHeadNumber s n st f
  · exact leaves _
  · rfl

/-- A table of the single key 0, whose owner leaves the class table. -/
@[simp] theorem State.classes_onKeyZero (s : State) (key : Nat) (f : State → Status × State)
    (leaves : (f s).2.quality.classes = s.quality.classes) :
    (s.onKeyZero key f).2.quality.classes = s.quality.classes := by
  fun_cases State.onKeyZero s key f
  · exact leaves
  · rfl

/-! ## Time -/

@[simp] theorem State.classes_countMillisecond (s : State) :
    s.countMillisecond.quality.classes = s.quality.classes := rfl
@[simp] theorem State.classes_groupExpiry (s : State) (g : Group) :
    (s.groupExpiry g).quality.classes = s.quality.classes := by simp [State.groupExpiry]

end Sys2Proof.Machine
end

section
/-!
Every step takes the class table through moves alone, so both laws of the table hold after every step (R132, R133).
-/
namespace Sys2Proof.Machine

variable {cs : List WireClass} {s : State}

/-! ## Classes -/

/-- A fold of steps that each take the class table through moves. -/
theorem State.foldl_run {α : Type} {f : State → α → State}
    (each : ∀ {s a}, ClassRun cs s.quality.classes → ClassRun cs (f s a).quality.classes) {l : List α}
    (r : ClassRun cs s.quality.classes) : ClassRun cs (l.foldl f s).quality.classes := by
  induction l generalizing s with
  | nil => exact r
  | cons a l ih => exact ih (each r)

theorem State.classResult_run (r : ClassRun cs s.quality.classes) {id x : Nat} (force : x ≤ 2000) (m : PullMode) :
    ClassRun cs (s.classResult id x m).quality.classes := by
  unfold State.classResult
  split
  · exact r
  · rename_i c found
    have moved : ClassRun cs (s.onClass id fun _ => c.takeResult x m).quality.classes := r.tail (.result m found force)
    simpa using moved

theorem State.classNotice_run (r : ClassRun cs s.quality.classes) {id : Nat} :
    ClassRun cs (s.classNotice id).quality.classes := by
  unfold State.classNotice
  split
  · exact r
  · rename_i c found
    have moved : ClassRun cs (s.onClass id fun _ => c.takeNotice).quality.classes := r.tail (.notice found)
    simpa using moved

theorem State.requalify_run (r : ClassRun cs s.quality.classes) {id : Nat} :
    ClassRun cs (s.requalify id).2.quality.classes := by
  have moved : ClassRun cs (s.onClass id WireClass.requalified).quality.classes := r.tail (.requalify id)
  unfold State.requalify
  split
  · exact r
  · simpa using moved

theorem State.putClass_run (r : ClassRun cs s.quality.classes) {id : Nat} {b : ClassBody} :
    ClassRun cs (s.putClass id b).2.quality.classes := by
  fun_cases State.putClass s id b
  -- the class is created
  case case5 absent t _ ok _ =>
    simpa +zetaDelta using r.tail (.put (Option.not_isSome_iff_eq_none.mp absent) (by simpa using ok))
  all_goals exact r

/-- Fields that do not name the proving units leave them. -/
theorem ClassField.foldl_write_provingUnits {fields : List ClassField} {c : Option ClassSettings} {t : ClassSettings}
    (unnamed : fields.any ClassField.namesProving = false) (written : fields.foldl ClassField.write c = some t) :
    c.map ClassSettings.provingUnits = some t.provingUnits := by
  induction fields generalizing c with
  | nil => exact congrArg (Option.map _) written
  | cons f rest ih =>
    rw [List.any_cons, Bool.or_eq_false_iff] at unnamed
    obtain ⟨other, rest_unnamed⟩ := unnamed
    have one := ih rest_unnamed written
    cases c with
    | none => simp [ClassField.write] at one
    | some c =>
      cases f <;> simp_all [ClassField.write, ClassField.namesProving]

theorem State.amendClass_run (r : ClassRun cs s.quality.classes) {id : Nat} {fields : List ClassField} :
    ClassRun cs (s.amendClass id fields).2.quality.classes := by
  fun_cases State.amendClass s id fields
  -- the settings are taken
  case case5 c found _ t written ok =>
    exact r.tail (.amend found (by simpa using ok) fun unnamed =>
      (Option.some.inj (ClassField.foldl_write_provingUnits unnamed written)).symm)
  all_goals exact r

theorem State.retireClass_run (r : ClassRun cs s.quality.classes) {id : Nat} :
    ClassRun cs (s.retireClass id).2.quality.classes := by
  fun_cases State.retireClass s id
  -- the class leaves the table
  case case3 => simpa +zetaDelta using r.tail (.retire id)
  all_goals exact r

theorem State.returnBudget_run (r : ClassRun cs s.quality.classes) {id : Nat} :
    ClassRun cs (s.returnBudget id).quality.classes := by
  unfold State.returnBudget
  split
  · rename_i c found
    split
    · split
      · rename_i room
        have moved : ClassRun cs (s.onClass id fun c => { c with budget := c.budget + 1 }).quality.classes :=
          r.tail (.giveBack found room)
        simpa using moved
      · exact r
    · exact r
  · exact r

theorem State.recordAdmission_run (r : ClassRun cs s.quality.classes) {h : HeadId} {used : List Nat} :
    ClassRun cs (s.recordAdmission h used).quality.classes := by
  simp only [State.recordAdmission, State.setAdmission_frame]
  exact State.foldl_run (fun r => r.tail (.admission _)) r

theorem State.undoAdmission_run (r : ClassRun cs s.quality.classes) {h : HeadId} :
    ClassRun cs (s.undoAdmission h).quality.classes := by
  simp only [State.undoAdmission, State.setAdmission_frame]
  exact State.foldl_run (fun r => State.returnBudget_run r) r

theorem State.takeKey_run (r : ClassRun cs s.quality.classes) {key : TableKey} :
    ClassRun cs (s.takeKey key).2.quality.classes := by
  have effect : ClassRun cs (s.takeEffect key).quality.classes := by
    fun_cases State.takeEffect s key
    -- the key names a class
    case case5 id => exact r.tail (.take id)
    all_goals simpa using r
  fun_cases State.takeKey s key
  case case2 => exact effect
  all_goals exact r

/-! ## Units, tickets and results -/

theorem State.endAdmission_run (r : ClassRun cs s.quality.classes) {h : HeadId} {id c w : Nat} {new : UnitState} :
    ClassRun cs (s.endAdmission h id c w new).quality.classes := by
  simp only [State.endAdmission, State.setAdmission_frame]
  split
  · split
    · simpa using r
    · exact r
  · exact State.foldl_run (fun r => State.returnBudget_run r) r

theorem State.changeUnit_run (r : ClassRun cs s.quality.classes) {id c w : Nat} {old new : UnitState}
    {f : Option FaultPart} : ClassRun cs (s.changeUnit id c w old new f).quality.classes := by
  have written : ClassRun cs (s.writeUnit id c w old new f).quality.classes := by simpa using r
  unfold State.changeUnit
  simp only
  split
  · exact State.endAdmission_run written
  · exact written

theorem State.reportBonded_run (r : ClassRun cs s.quality.classes) {h : HeadId} {id c w : Nat} :
    ClassRun cs (s.reportBonded h id c w).2.quality.classes := by
  fun_cases State.reportBonded s h id c w
  · exact State.changeUnit_run r
  · exact r

theorem State.reportMiss_run (r : ClassRun cs s.quality.classes) {h : HeadId} {id c w wire : Nat} {k : FaultKind} :
    ClassRun cs (s.reportMiss h id c w wire k).2.quality.classes := by
  fun_cases State.reportMiss s h id c w wire k
  · exact State.changeUnit_run r
  · exact r

theorem State.reportClaimEnd_run (r : ClassRun cs s.quality.classes) {h : HeadId} {id c w wire : Nat} {k : FaultKind}
    {touched : Bool} : ClassRun cs (s.reportClaimEnd h id c w wire k touched).2.quality.classes := by
  fun_cases State.reportClaimEnd s h id c w wire k touched
  case case1 | case2 => exact State.changeUnit_run r
  all_goals exact r

theorem State.rejectUnit_run (r : ClassRun cs s.quality.classes) {id c w : Nat} :
    ClassRun cs (s.rejectUnit id c w).2.quality.classes := by
  fun_cases State.rejectUnit s id c w
  case case3 => exact State.changeUnit_run r
  all_goals exact r

theorem State.unrejectUnit_run (r : ClassRun cs s.quality.classes) {id c w : Nat} :
    ClassRun cs (s.unrejectUnit id c w).2.quality.classes := by
  fun_cases State.unrejectUnit s id c w
  case case3 => exact State.changeUnit_run r
  all_goals exact r

theorem State.acceptResult_run (r : ClassRun cs s.quality.classes) {t : Ticket} {w : TicketWire} {x : Nat}
    (force : x ≤ 2000) (m : PullMode) : ClassRun cs (s.acceptResult t w x m).quality.classes := by
  simp only [State.acceptResult, State.classes_ite, State.raise_frame, State.classes_closeTicket,
    State.classes_markTickets, ite_self]
  exact State.classResult_run (by exact r) force m

/-- A result reaches its class clamped to 2,000 (R146). -/
theorem State.judgeResult_run (r : ClassRun cs s.quality.classes) {ticket wire force mode : Nat} :
    ClassRun cs (s.judgeResult ticket wire force mode).2.quality.classes := by
  fun_cases State.judgeResult s ticket wire force mode
  -- the result is accepted
  case case5 s' =>
    have counted : ClassRun cs s'.quality.classes := by simpa +zetaDelta using r
    exact State.acceptResult_run counted (min_le_right _ _) _
  all_goals exact r

theorem State.expireTicket_run (r : ClassRun cs s.quality.classes) {t : Ticket} :
    ClassRun cs (s.expireTicket t).quality.classes := by
  simp only [State.expireTicket, State.raise_frame]
  exact State.foldl_run (fun r => State.classNotice_run r) (by simpa using r)

theorem State.windowLeft_run (r : ClassRun cs s.quality.classes) : ClassRun cs s.windowLeft.quality.classes :=
  State.foldl_run (fun r => State.expireTicket_run r) r

/-! ## Heads -/

theorem State.bondUnit_run (r : ClassRun cs s.quality.classes) {h : HeadId} {c : Claim} :
    ClassRun cs (s.bondUnit h c).quality.classes := by
  simpa [State.bondUnit] using State.reportBonded_run r

theorem State.endWire_run (r : ClassRun cs s.quality.classes) {h : HeadId} {c : Claim} :
    ClassRun cs (s.endWire h c).2.quality.classes := by
  unfold State.endWire
  simp only
  split
  · simpa using r
  · split
    · simpa using r
    · exact State.bondUnit_run (by simpa using r)

theorem State.beginUnit_run (r : ClassRun cs s.quality.classes) {h : HeadId} {c : Claim} :
    ClassRun cs (s.beginUnit h c).quality.classes := by
  fun_cases State.beginUnit s h c
  case case1 => simpa using State.bondUnit_run (by simpa +zetaDelta using r)
  case case2 => simpa +zetaDelta using r

theorem State.endClaim_run (r : ClassRun cs s.quality.classes) {h : HeadId} {c : Claim} {k : FaultKind} {wire : Nat} :
    ClassRun cs (s.endClaim h c k wire).quality.classes := by
  simpa [State.endClaim] using State.reportClaimEnd_run r

theorem State.miss_run (r : ClassRun cs s.quality.classes) {h : HeadId} {c : Claim} {k : FaultKind} :
    ClassRun cs (s.miss h c k).quality.classes := by
  have missed := State.reportMiss_run r (h := h) (id := c.strip) (c := c.column) (w := c.row) (wire := c.wire) (k := k)
  unfold State.miss
  simp only
  split <;> simpa using missed

/-- An event in a wire ends in what the step in progress makes of it, or is a stray event (R97). -/
theorem State.inWire_run (r : ClassRun cs s.quality.classes) {h : HeadId} {f : Step → Claim → Option State}
    (taken : ∀ st c t, f st c = some t → ClassRun cs t.quality.classes) :
    ClassRun cs (s.inWire h f).quality.classes := by
  have stray : ClassRun cs (s.stray h).quality.classes := by simpa using r
  unfold State.inWire
  simp only
  split
  · split
    · rename_i st c _ _
      cases e : f st c with
      | none => exact stray
      | some t => exact taken st c t e
    · exact stray
  · exact stray

theorem State.atPosition_run (r : ClassRun cs s.quality.classes) {h : HeadId} :
    ClassRun cs (s.atPosition h).quality.classes := by
  refine State.inWire_run r fun st c t e => ?_
  repeat' split at e
  all_goals cases e
  all_goals simpa using r

theorem State.contact_run (r : ClassRun cs s.quality.classes) {h : HeadId} :
    ClassRun cs (s.contact h).quality.classes := by
  unfold State.contact
  split
  · simpa using r
  · refine State.inWire_run r fun st c t e => ?_
    split at e <;> cases e <;> simpa using r

theorem State.bondDone_run (r : ClassRun cs s.quality.classes) {h : HeadId} :
    ClassRun cs (s.bondDone h).quality.classes := by
  refine State.inWire_run r fun st c t e => ?_
  split at e <;> cases e <;> simpa using r

theorem State.attached_run (r : ClassRun cs s.quality.classes) {h : HeadId} :
    ClassRun cs (s.attached h).quality.classes := by
  refine State.inWire_run r fun st c t e => ?_
  split at e <;> cases e <;> simpa using r

theorem State.detached_run (r : ClassRun cs s.quality.classes) {h : HeadId} :
    ClassRun cs (s.detached h).quality.classes := by
  refine State.inWire_run r fun st c t e => ?_
  split at e <;> cases e <;> exact State.miss_run r

theorem State.sparkOk_run (r : ClassRun cs s.quality.classes) {h : HeadId} :
    ClassRun cs (s.sparkOk h).quality.classes := by
  refine State.inWire_run r fun st c t e => ?_
  have ball : ClassRun cs (s.onHead h fun r => { r with ball := true }).quality.classes := by simpa using r
  simp only at e
  split at e <;> cases e
  · simpa using r
  · simpa using r
  · simpa using State.endWire_run ball

theorem State.sparkFailed_run (r : ClassRun cs s.quality.classes) {h : HeadId} {c : Claim} {st : Step} {t : State}
    (e : s.sparkFailed h c st = some t) : ClassRun cs t.quality.classes := by
  unfold State.sparkFailed at e
  simp only at e
  split at e <;> cases e
  · simpa using r
  · simpa using r
  · simpa using State.endWire_run (by simpa using r)

theorem State.sparkOpen_run (r : ClassRun cs s.quality.classes) {h : HeadId} :
    ClassRun cs (s.sparkOpen h).quality.classes := by
  refine State.inWire_run r fun st c t e => ?_
  split at e
  case h_4 => cases e
  all_goals
    split at e
    · cases e; simpa using r
    · exact State.sparkFailed_run r e

theorem State.endAborting_run (r : ClassRun cs s.quality.classes) {h : HeadId} {k : AbortCause} :
    ClassRun cs (s.endAborting h k).quality.classes := by
  have stopped : ClassRun cs (s.onHead h fun r => { r with stopTimer := none }).quality.classes := by simpa using r
  unfold State.endAborting
  simp only
  split
  · split
    · exact State.endClaim_run stopped
    · simpa using r
  · exact State.endClaim_run stopped
  · exact stopped

theorem State.stopped_run (r : ClassRun cs s.quality.classes) {h : HeadId} :
    ClassRun cs (s.stopped h).quality.classes := by
  fun_cases State.stopped s h
  case case3 => simpa using r
  all_goals simpa using State.endAborting_run r

theorem State.stopTimeout_run (r : ClassRun cs s.quality.classes) {h : HeadId} :
    ClassRun cs (s.stopTimeout h).quality.classes := by
  fun_cases State.stopTimeout s h
  case case1 => simpa using State.endAborting_run r
  all_goals exact r

theorem State.faultClaim_run (r : ClassRun cs s.quality.classes) {h : HeadId} :
    ClassRun cs (s.faultClaim h).quality.classes := by
  fun_cases State.faultClaim s h
  case case1 => exact State.endClaim_run r
  all_goals simpa using r

theorem State.driveFault_run (r : ClassRun cs s.quality.classes) {h : HeadId} {code : Nat} :
    ClassRun cs (s.driveFault h code).quality.classes := by
  fun_cases State.driveFault s h code
  case case4 => simpa using State.endAborting_run (by simpa +zetaDelta using r)
  case case5 => simpa using State.faultClaim_run (by simpa +zetaDelta using r)
  all_goals simpa +zetaDelta using r

theorem State.abandonClaim_run (r : ClassRun cs s.quality.classes) {h : HeadId} {c : Claim} :
    ClassRun cs (s.abandonClaim h c).quality.classes := by
  simp only [State.abandonClaim, State.classes_enter]
  split <;> exact State.endClaim_run r

theorem State.abortHead_run (r : ClassRun cs s.quality.classes) {h : HeadId} :
    ClassRun cs (s.abortHead h).2.quality.classes := by
  fun_cases State.abortHead s h
  case case3 | case5 => exact State.abandonClaim_run r
  all_goals simpa using r

/-! ## The arbiter and the announcements -/

theorem State.sendGrant_run (r : ClassRun cs s.quality.classes) {h : HeadId} {id : Nat} {p : Pos} :
    ClassRun cs (s.sendGrant h id p).2.quality.classes := by
  have claimed : ClassRun cs (s.claimUnit h id p).quality.classes := by simpa using r
  fun_cases State.sendGrant s h id p
  case case1 | case2 => exact State.undoAdmission_run r
  case case3 => exact State.beginUnit_run claimed
  case case4 => exact State.reportClaimEnd_run claimed

theorem State.serve_run (r : ClassRun cs s.quality.classes) {h : HeadId} :
    ClassRun cs (s.serve h).2.quality.classes :=
  State.serve_keeps (fun t => ClassRun cs t.quality.classes) (fun _ _ r => by simpa using r)
    (fun _ _ r => State.recordAdmission_run r) (fun _ _ _ r => State.sendGrant_run r) r

theorem State.reexamine_run (r : ClassRun cs s.quality.classes) : ClassRun cs s.reexamine.quality.classes := by
  unfold State.reexamine
  split
  · exact State.serve_run (State.serve_run r)
  · exact State.serve_run r
  · exact State.serve_run r
  · exact r

theorem State.settleOne_run {t : State} (r : ClassRun cs s.quality.classes) (e : s.settleOne = some t) :
    ClassRun cs t.quality.classes := by
  unfold State.settleOne at e
  repeat' split at e
  · cases e; exact State.reexamine_run r
  · cases e; simpa using r
  · cases e; simpa using r
  · cases e; simpa using r
  · cases e

theorem State.settle_run (r : ClassRun cs s.quality.classes) : ClassRun cs s.settle.quality.classes := by
  have all : ∀ n (s : State), ClassRun cs s.quality.classes → ClassRun cs (State.settleFor n s).quality.classes := by
    intro n
    induction n with
    | zero => exact fun _ r => r
    | succ n ih =>
      intro s r
      unfold State.settleFor
      split
      · exact r
      · exact ih _ (State.settleOne_run r ‹_›)
  simpa [State.settle, State.settleEngine] using all _ _ r

/-! ## The feed -/

theorem State.completeExit_run (r : ClassRun cs s.quality.classes) : ClassRun cs s.completeExit.quality.classes := by
  fun_cases State.completeExit s
  case case1 => simpa using r
  case case2 => simpa using State.windowLeft_run (by simpa +zetaDelta using r)

theorem State.completeOrder_run (r : ClassRun cs s.quality.classes) {g : Group} {o : Order} :
    ClassRun cs (s.completeOrder g o).quality.classes := by
  have pushed : ∀ n, ClassRun cs (s.completePushIn n).2.quality.classes := fun n => by simpa using r
  cases o with
  | push n =>
    unfold State.completeOrder
    simp only
    split
    · simpa using r
    · split
      · rename_i e; simpa [e] using pushed n
      · rename_i e; simpa [e] using pushed n
  | transferWindow => exact State.completeExit_run r
  | _ => simpa [State.completeOrder] using r

theorem State.feedDone_run (r : ClassRun cs s.quality.classes) {g : Group} :
    ClassRun cs (s.feedDone g).quality.classes := by
  fun_cases State.feedDone s g
  · exact State.completeOrder_run r
  · exact r

theorem State.removeWindow_run (r : ClassRun cs s.quality.classes) : ClassRun cs s.removeWindow.quality.classes := by
  simpa [State.removeWindow] using State.windowLeft_run (by simpa using r)

theorem State.clearTrack_run (r : ClassRun cs s.quality.classes) {o : Order} {d : Disposition} :
    ClassRun cs (s.clearTrack o d).quality.classes := by
  unfold State.clearTrack
  split
  case h_6 | h_9 => exact State.removeWindow_run r
  case h_7 => exact State.completeExit_run r
  case h_5 =>
    simp only
    split <;> simpa using r
  all_goals simpa using r

theorem State.feedClear_run (r : ClassRun cs s.quality.classes) {code : Nat} {d : Disposition} :
    ClassRun cs (s.feedClear code d).2.quality.classes := by
  fun_cases State.feedClear s code d
  case case2 => exact State.clearTrack_run r
  all_goals simpa using r

/-! ## The touch interface, the ports and the record link -/

theorem State.issue_run {n : Nat} {a : TouchAction} {answer : Status × State}
    (r : ClassRun cs answer.2.quality.classes) : ClassRun cs (State.issue n a answer).quality.classes := by
  simpa [State.issue] using r

theorem State.pressMap_run (r : ClassRun cs s.quality.classes) {p : Panel} {x y : Nat} :
    ClassRun cs (s.pressMap p x y).quality.classes := by
  fun_cases State.pressMap s p x y
  case case4 => exact State.issue_run (State.unrejectUnit_run r)
  case case5 => exact State.issue_run (State.rejectUnit_run r)
  all_goals exact r

theorem State.pressHead_run (r : ClassRun cs s.quality.classes) {p : Panel} {h : HeadId} {x : Nat} :
    ClassRun cs (s.pressHead p h x).quality.classes := by
  fun_cases State.pressHead s p h x
  case case3 => exact State.issue_run (State.abortHead_run r)
  all_goals simpa [State.issue] using r

theorem State.pressClasses_run (r : ClassRun cs s.quality.classes) {p : Panel} {page y : Nat} :
    ClassRun cs (s.pressClasses p page y).quality.classes := by
  fun_cases State.pressClasses s p page y
  case case2 => exact State.issue_run (State.requalify_run r)
  all_goals simpa using r

theorem State.pressPanel_run (r : ClassRun cs s.quality.classes) {p : Panel} {x y : Nat} :
    ClassRun cs (s.pressPanel p x y).quality.classes := by
  unfold State.pressPanel
  split
  · exact State.pressMap_run r
  · exact State.pressMap_run r
  · exact State.pressHead_run r
  · exact State.pressClasses_run r
  all_goals exact r

theorem State.press_run (r : ClassRun cs s.quality.classes) {x y : Nat} :
    ClassRun cs (s.press x y).quality.classes := by
  unfold State.press
  simp only
  repeat' split
  case h_1 => exact State.pressPanel_run (by exact r)
  all_goals exact r

theorem State.gaugeByte_run (r : ClassRun cs s.quality.classes) {b : Byte} :
    ClassRun cs (s.gaugeByte b).quality.classes := by
  have whole : ∀ {s bs}, ClassRun cs s.quality.classes → ClassRun cs (State.gaugeFrame s bs).quality.classes := by
    intro s bs r
    unfold State.gaugeFrame
    split
    · simpa using State.judgeResult_run r
    · simpa using r
  fun_cases State.gaugeByte s b
  case case3 => exact whole r
  all_goals exact r

theorem State.cellResetUnit_run (r : ClassRun cs s.quality.classes) {h : HeadId} :
    ClassRun cs (s.cellResetUnit h).quality.classes := by
  fun_cases State.cellResetUnit s h
  · exact State.reportClaimEnd_run r
  · exact r

theorem State.cellReset_run (r : ClassRun cs s.quality.classes) : ClassRun cs s.cellReset.quality.classes := by
  have lowered : ClassRun cs (s.lower 0x3FF).quality.classes := by simpa using r
  simpa [State.cellReset] using State.cellResetUnit_run (State.cellResetUnit_run lowered)

/-- A head named by its number, or a refusal. -/
theorem State.onHeadNumber_run (r : ClassRun cs s.quality.classes) {n : Nat} {refusal : Status}
    {f : State → HeadId → Status × State} (owner : ∀ h, ClassRun cs (f s h).2.quality.classes) :
    ClassRun cs (s.onHeadNumber n refusal f).2.quality.classes := by
  unfold State.onHeadNumber
  split
  · exact owner _
  · exact r

/-- A request takes the class table through moves when its owner does. -/
theorem State.request_run (r : ClassRun cs s.quality.classes) {tag kind code : Nat} {owner : State → Answer × State}
    (moves : ∀ s : State, ClassRun cs s.quality.classes → ClassRun cs (owner s).2.quality.classes) :
    ClassRun cs (s.request tag kind code owner).quality.classes := by
  cases busy : s.link.request with
  | some slot => simpa [State.request_overrun busy] using r
  | none =>
    rw [State.request_eq busy]
    simpa using State.settle_run (moves _ (by simpa using r))

/-! ## Time -/

theorem State.headExpiries_run (r : ClassRun cs s.quality.classes) {h : HeadId} :
    ClassRun cs (s.headExpiries h).quality.classes := by
  have stepped : ClassRun cs (if ended (s.head h).stepTimer then s.stepTimeout h else s).quality.classes := by
    simpa using r
  unfold State.headExpiries
  extract_lets s'
  split
  · exact State.stopTimeout_run stepped
  · exact stepped

theorem State.tick_run (r : ClassRun cs s.quality.classes) : ClassRun cs s.tick.quality.classes := by
  refine State.settle_run ?_
  simp only [State.expiries, State.classes_ite, State.classes_dimTimeout, State.classes_gaugeExpiry, ite_self]
  refine State.headExpiries_run (State.headExpiries_run ?_)
  simpa using r

/-! ## Steps -/

/-- An event takes the class table through moves when its share does. -/
theorem State.event_run {t : State} {f : State → State} (next : s.event f = .next t)
    (moves : ∀ s : State, ClassRun cs s.quality.classes → ClassRun cs (f s).quality.classes)
    (r : ClassRun cs s.quality.classes) : ClassRun cs t.quality.classes := by
  cases next
  exact State.settle_run (moves _ r)

/-- The same of a request that a command is. -/
theorem State.request_next_run {t : State} {tag kind code : Nat} {owner : State → Answer × State}
    (next : (Host.Outcome.next (s.request tag kind code owner) : Outcome) = .next t)
    (moves : ∀ s : State, ClassRun cs s.quality.classes → ClassRun cs (owner s).2.quality.classes)
    (r : ClassRun cs s.quality.classes) : ClassRun cs t.quality.classes := by
  cases next
  exact State.request_run r moves

/-- Every command takes the class table through moves alone. -/
theorem exec_run {i : Instr} {t : State} (next : exec i s = .next t) (r : ClassRun cs s.quality.classes) :
    ClassRun cs t.quality.classes := by
  cases i
  case powerOnReset => cases next; exact r.tail .reset
  case unknownTransaction b =>
    change execUnknownTransaction b s = .next t at next
    unfold execUnknownTransaction at next
    split at next <;> cases next <;> simpa using r
  case read | badFrame | overrun | responsePlaced => cases next; simpa using r
  case take | takeProgram | takeHead | takeHeater | takeClass | takeTicket | takePanel | takeTouch | takeAttention |
      takeLink => exact State.request_next_run next (fun _ r => State.takeKey_run r) r
  case putClass => exact State.request_next_run next (fun _ r => State.putClass_run r) r
  case amendClass => exact State.request_next_run next (fun _ r => State.amendClass_run r) r
  case retireClass => exact State.request_next_run next (fun _ r => State.retireClass_run r) r
  case rejectUnit => exact State.request_next_run next (fun _ r => State.rejectUnit_run r) r
  case unrejectUnit => exact State.request_next_run next (fun _ r => State.unrejectUnit_run r) r
  case feedClearCompleted | feedClearBack | feedClearRemoved =>
    exact State.request_next_run next (fun _ r => State.feedClear_run r) r
  case abort =>
    exact State.request_next_run next (fun _ r => State.onHeadNumber_run r fun _ => State.abortHead_run r) r
  case requalify => exact State.request_next_run next (fun _ r => State.requalify_run r) r
  case submitResult => exact State.request_next_run next (fun _ r => State.judgeResult_run r) r
  case cellReset => exact State.request_next_run next (fun _ r => State.cellReset_run r) r
  case look | list | writeLocked | retireStrip | putProgram | amendProgram | retireProgram | putWire | amendWire |
      retireWire | putLoop | amendLoop | amendHead | putPanel | amendPanel | retirePanel | amendColourmap |
      amendBacklight | amendAttention | amendCellMixed | amendCellStrip | amendCellFeed | amendCellWindow |
      amendCellMissRun | amendCellDueCount | amendCellHeater | lotStart | feedRun | feedStop | programApply |
      headEnable | headDisable | hold | resume | newCapillary | headReset | sampleNext | withdraw | draw |
      clearAttention => exact State.request_next_run next (fun _ r => by simpa using r) r
  case putInslot | amendInslot | retireInslot =>
    exact State.request_next_run next
      (fun _ r => by simpa [State.putInslot, State.amendInslot, State.retireInslot] using r) r
  case clearScreen => exact State.request_next_run next (fun _ r => by simpa [State.clearScreenAnswer] using r) r
  case atPosition h => exact State.event_run (f := (·.atPosition h)) next (fun _ r => State.atPosition_run r) r
  case contact h => exact State.event_run (f := (·.contact h)) next (fun _ r => State.contact_run r) r
  case bondDone h => exact State.event_run (f := (·.bondDone h)) next (fun _ r => State.bondDone_run r) r
  case attached h => exact State.event_run (f := (·.attached h)) next (fun _ r => State.attached_run r) r
  case detached h => exact State.event_run (f := (·.detached h)) next (fun _ r => State.detached_run r) r
  case sparkOk h => exact State.event_run (f := (·.sparkOk h)) next (fun _ r => State.sparkOk_run r) r
  case sparkOpen h => exact State.event_run (f := (·.sparkOpen h)) next (fun _ r => State.sparkOpen_run r) r
  case stopped h => exact State.event_run (f := (·.stopped h)) next (fun _ r => State.stopped_run r) r
  case driveFault h code =>
    exact State.event_run (f := (·.driveFault h code)) next (fun _ r => State.driveFault_run r) r
  case stepTimeout h => exact State.event_run (f := (·.stepTimeout h)) next (fun _ r => by simpa using r) r
  case stopTimeout h => exact State.event_run (f := (·.stopTimeout h)) next (fun _ r => State.stopTimeout_run r) r
  case slotSeen g n b => exact State.event_run (f := (·.slotSeen g n b)) next (fun _ r => by simpa using r) r
  case done g => exact State.event_run (f := (·.feedDone g)) next (fun _ r => State.feedDone_run r) r
  case jam g => exact State.event_run (f := (·.feedJam g)) next (fun _ r => by simpa using r) r
  case orderTimeout g => exact State.event_run (f := (·.orderTimeout g)) next (fun _ r => by simpa using r) r
  case presenceRise d => exact State.event_run (f := (·.presenceRise d)) next (fun _ r => by simpa using r) r
  case presenceFall d => exact State.event_run (f := (·.presenceFall d)) next (fun _ r => by simpa using r) r
  case soakElapsed => exact State.event_run (f := State.soakElapsed) next (fun _ r => by simpa using r) r
  case reading f => exact State.event_run (f := (·.takeReading f)) next (fun _ r => by simpa using r) r
  case freshnessExpiry => exact State.event_run (f := State.freshnessExpiry) next (fun _ r => by simpa using r) r
  case resultFrame bs =>
    exact State.event_run (f := (·.gaugeBytes bs)) next
      (fun _ r => State.foldl_run (fun r => State.gaugeByte_run r) r) r
  case gaugeFrameLimit => exact State.event_run (f := State.gaugeExpiry) next (fun _ r => by simpa using r) r
  case press x y => exact State.event_run (f := (·.press x y)) next (fun _ r => State.press_run r) r
  case release => exact State.event_run (f := State.release) next (fun _ r => r) r
  case dimTimeout => exact State.event_run (f := State.dimTimeout) next (fun _ r => by simpa using r) r
  case keySwitchChange b => exact State.event_run (f := (·.keySwitch b)) next (fun _ r => r) r
  case frameStart => exact State.event_run (f := State.frameStart) next (fun _ r => by simpa using r) r
  case renderComplete => exact State.event_run (f := State.renderComplete) next (fun _ r => by simpa using r) r
  case drawComplete => exact State.event_run (f := State.drawComplete) next (fun _ r => by simpa using r) r

/-- Every step takes the class table through moves alone. -/
theorem step_run {t : State} (next : step s = .next t) : ClassRun s.quality.classes t.quality.classes := by
  unfold step at next
  split at next
  · cases next
    exact State.tick_run .refl
  · exact exec_run next .refl

end Sys2Proof.Machine

namespace Sys2Proof.Machine

/-- Settles O59: every step takes the class table through moves, and each move keeps the law of every class, by
the bounds of the average's step, and every budget within its proving units. -/
theorem classesKeepAverageLaw : Obligations.ClassesKeepAverageLaw :=
  ⟨fun _ _ law next => (step_run next).keeps ClassMove.classLaw law,
    fun _ _ law next => (step_run next).keeps ClassMove.budgetLaw law⟩

end Sys2Proof.Machine
end
